-- ==== Sys2Proof/Word.lean ====
section
/-! DEFINITION. The byte of the control links, and the plainest arithmetic every chapter uses (clamping, saturating counts). -/

namespace Sys2Proof

/-- One byte of a telegram (R152). -/
abbrev Byte := BitVec 8

/-- The entries of one sector's barred-tile mask: bit `t` says whether tile `t` is barred (R6). -/
abbrev TileMask := BitVec 96

/-- An index of the Subscriber Table, 0 to 191 (R35). -/
abbrev RecIdx := Fin 192

/-- "Clamped" (00_scope, R153): the nearest bound of the range `lo` to `hi`. -/
def clampTo (lo hi v : Nat) : Nat := max lo (min hi v)

/-- A count that rises by 1 and stops at `top`. -/
def satSucc (top v : Nat) : Nat := min (v + 1) top

/-- The quotient of `a` by `b`, rounded up (00_scope); 0 when `b` is 0. -/
def ceilDiv (a b : Nat) : Nat := (a + b - 1) / b

end Sys2Proof
end

