-- ==== Sys2Proof/Syntax.lean ====
section
/-! DEFINITION. The commands: one constructor for each row of spec/opcode_table.json, with its operands. -/

namespace Sys2Proof

/-- The four control links (00_scope). -/
inductive Link where
  | l0 | l1 | l2 | l3
  deriving DecidableEq, Repr

/-- The three sectors (00_scope). -/
inductive SectorId where
  | s0 | s1 | s2
  deriving DecidableEq, Repr

/-- The commands of the part, one constructor for each row of the operation table.

* A **request** row stands for the event at which the request is taken: the release of the select period of `link`
  that carried a good telegram with this tag and body (R152). The kind is the constructor.
* `selectAssert` and `selectRelease` carry the bits clocked on the link since its last command, the oldest first.
* A **timing** row stands for the quiet reference clock edges (frame pulse input sampled released) up to and
  including the edge at which the event comes; `referenceClockEdge` is one edge, with the level sampled at it.

These readings of the rows are DESIGN CHOICEs (notes/assumptions/4.md, 6.md and 9.md). -/
inductive Instr where
  -- Resets and lines
  | powerOnReset
  | selectAssert (link : Link) (bits : List Bool)
  | selectRelease (link : Link) (bits : List Bool)
  | holdTimeout (link : Link) (bits : List Bool)
  | powerLowLineChange (asserted : Bool)
  -- Frame timing and the events that follow from it
  | referenceClockEdge (pulseLine : Bool)
  | pulse
  | missedExpiry
  | frameStart
  | moveExpiry (record : RecIdx)
  | slotBoundary
  | buildCompletion
  -- Requests: the site policy
  | fetch (link : Link) (tag : Byte) (body : List Byte)
  | setPolicy (link : Link) (tag : Byte) (body : List Byte)
  | readPolicy (link : Link) (tag : Byte) (body : List Byte)
  | setBarMask (link : Link) (tag : Byte) (body : List Byte)
  | restartScheduling (link : Link) (tag : Byte) (body : List Byte)
  -- Requests: the frame timing
  | setTiming (link : Link) (tag : Byte) (body : List Byte)
  | readTiming (link : Link) (tag : Byte) (body : List Byte)
  -- Requests: the subscriber records
  | admitSubscriber (link : Link) (tag : Byte) (body : List Byte)
  | setTerms (link : Link) (tag : Byte) (body : List Byte)
  | suspend (link : Link) (tag : Byte) (body : List Byte)
  | resume (link : Link) (tag : Byte) (body : List Byte)
  | remove (link : Link) (tag : Byte) (body : List Byte)
  | readSubscriber (link : Link) (tag : Byte) (body : List Byte)
  -- Requests: sectors, bindings and handle maps
  | bindSector (link : Link) (tag : Byte) (body : List Byte)
  | releaseSector (link : Link) (tag : Byte) (body : List Byte)
  | pinSector (link : Link) (tag : Byte) (body : List Byte)
  | attach (link : Link) (tag : Byte) (body : List Byte)
  | detach (link : Link) (tag : Byte) (body : List Byte)
  | readSectors (link : Link) (tag : Byte) (body : List Byte)
  | demandBatch (link : Link) (tag : Byte) (body : List Byte)
  -- Requests: the plans
  | readGrants (link : Link) (tag : Byte) (body : List Byte)
  | readPlanSummary (link : Link) (tag : Byte) (body : List Byte)
  -- Requests: moves
  | move (link : Link) (tag : Byte) (body : List Byte)
  | readNotice (link : Link) (tag : Byte) (body : List Byte)
  | claim (link : Link) (tag : Byte) (body : List Byte)
  | cancelMove (link : Link) (tag : Byte) (body : List Byte)
  -- Requests: the control links
  | setLinkRights (link : Link) (tag : Byte) (body : List Byte)
  | readAttention (link : Link) (tag : Byte) (body : List Byte)
  | setAttentionMask (link : Link) (tag : Byte) (body : List Byte)
  | readLinkStatus (link : Link) (tag : Byte) (body : List Byte)
  deriving DecidableEq, Repr

/-- The thirty request kinds of R166, in the order of their kind values. -/
inductive ReqKind where
  | fetch | readPolicy | setPolicy | setBarMask | restartScheduling | setTiming | readTiming
  | admitSubscriber | setTerms | suspend | resume | remove | readSubscriber
  | bindSector | releaseSector | pinSector | attach | detach | readSectors | demandBatch
  | readGrants | readPlanSummary | move | readNotice | claim | cancelMove
  | setLinkRights | readAttention | setAttentionMask | readLinkStatus
  deriving DecidableEq, Repr

/-- The request a row carries, if it is a request row. -/
def Instr.request? : Instr → Option (ReqKind × Link × Byte × List Byte)
  | .powerOnReset => none
  | .selectAssert _ _ => none
  | .selectRelease _ _ => none
  | .holdTimeout _ _ => none
  | .powerLowLineChange _ => none
  | .referenceClockEdge _ => none
  | .pulse => none
  | .missedExpiry => none
  | .frameStart => none
  | .moveExpiry _ => none
  | .slotBoundary => none
  | .buildCompletion => none
  | .fetch l t b => some (.fetch, l, t, b)
  | .setPolicy l t b => some (.setPolicy, l, t, b)
  | .readPolicy l t b => some (.readPolicy, l, t, b)
  | .setBarMask l t b => some (.setBarMask, l, t, b)
  | .restartScheduling l t b => some (.restartScheduling, l, t, b)
  | .setTiming l t b => some (.setTiming, l, t, b)
  | .readTiming l t b => some (.readTiming, l, t, b)
  | .admitSubscriber l t b => some (.admitSubscriber, l, t, b)
  | .setTerms l t b => some (.setTerms, l, t, b)
  | .suspend l t b => some (.suspend, l, t, b)
  | .resume l t b => some (.resume, l, t, b)
  | .remove l t b => some (.remove, l, t, b)
  | .readSubscriber l t b => some (.readSubscriber, l, t, b)
  | .bindSector l t b => some (.bindSector, l, t, b)
  | .releaseSector l t b => some (.releaseSector, l, t, b)
  | .pinSector l t b => some (.pinSector, l, t, b)
  | .attach l t b => some (.attach, l, t, b)
  | .detach l t b => some (.detach, l, t, b)
  | .readSectors l t b => some (.readSectors, l, t, b)
  | .demandBatch l t b => some (.demandBatch, l, t, b)
  | .readGrants l t b => some (.readGrants, l, t, b)
  | .readPlanSummary l t b => some (.readPlanSummary, l, t, b)
  | .move l t b => some (.move, l, t, b)
  | .readNotice l t b => some (.readNotice, l, t, b)
  | .claim l t b => some (.claim, l, t, b)
  | .cancelMove l t b => some (.cancelMove, l, t, b)
  | .setLinkRights l t b => some (.setLinkRights, l, t, b)
  | .readAttention l t b => some (.readAttention, l, t, b)
  | .setAttentionMask l t b => some (.setAttentionMask, l, t, b)
  | .readLinkStatus l t b => some (.readLinkStatus, l, t, b)

end Sys2Proof
end

