-- ==== Sys2Proof/Decode.lean ====
section
/-! DEFINITION. The words the operation table gives bits to (none), and the request telegrams of R152 and R166:
kind values, checksum, and the telegram that carries a request row. -/

namespace Sys2Proof

/-- The command that a table word spells. The operation table of this part gives no row any bits, so no word
spells a command. -/
def decodeTableWord (_nbits _w : Nat) : Option Instr := none

/-- The kind value of a request (R166). -/
def ReqKind.code : ReqKind → Nat
  | .fetch => 0 | .readPolicy => 1 | .setPolicy => 2 | .setBarMask => 3 | .restartScheduling => 4
  | .setTiming => 5 | .readTiming => 6 | .admitSubscriber => 7 | .setTerms => 8 | .suspend => 9
  | .resume => 10 | .remove => 11 | .readSubscriber => 12 | .bindSector => 13 | .releaseSector => 14
  | .pinSector => 15 | .attach => 16 | .detach => 17 | .readSectors => 18 | .demandBatch => 19
  | .readGrants => 20 | .readPlanSummary => 21 | .move => 22 | .readNotice => 23 | .claim => 24
  | .cancelMove => 25 | .setLinkRights => 26 | .readAttention => 27 | .setAttentionMask => 28
  | .readLinkStatus => 29

/-- The request a kind value names; kinds 30 to 255 name none (R166). -/
def ReqKind.ofCode : Nat → Option ReqKind
  | 0 => some .fetch | 1 => some .readPolicy | 2 => some .setPolicy | 3 => some .setBarMask
  | 4 => some .restartScheduling | 5 => some .setTiming | 6 => some .readTiming | 7 => some .admitSubscriber
  | 8 => some .setTerms | 9 => some .suspend | 10 => some .resume | 11 => some .remove
  | 12 => some .readSubscriber | 13 => some .bindSector | 14 => some .releaseSector | 15 => some .pinSector
  | 16 => some .attach | 17 => some .detach | 18 => some .readSectors | 19 => some .demandBatch
  | 20 => some .readGrants | 21 => some .readPlanSummary | 22 => some .move | 23 => some .readNotice
  | 24 => some .claim | 25 => some .cancelMove | 26 => some .setLinkRights | 27 => some .readAttention
  | 28 => some .setAttentionMask | 29 => some .readLinkStatus
  | _ => none

/-- The sum of a telegram's bytes modulo 256 (R152). -/
def byteSum (bytes : List Byte) : Byte := bytes.foldl (· + ·) 0

/-- The value that brings the sum of all bytes of a telegram to 0 modulo 256 (R166). -/
def checksum (bytes : List Byte) : Byte := -byteSum bytes

/-- The request telegram of a kind, a tag and a body: kind, tag, length, body, checksum (R152, R166). -/
def requestTelegram (k : ReqKind) (tag : Byte) (body : List Byte) : List Byte :=
  let head : List Byte := BitVec.ofNat 8 k.code :: tag :: BitVec.ofNat 8 body.length :: body
  head ++ [checksum head]

/-- The eight bits of a byte, most significant first (R151). -/
def bitsOfByte (b : Byte) : List Bool :=
  [b.getLsbD 7, b.getLsbD 6, b.getLsbD 5, b.getLsbD 4, b.getLsbD 3, b.getLsbD 2, b.getLsbD 1, b.getLsbD 0]

/-- The bits of a run of bytes in the order they are clocked. -/
def bitsOfBytes (bytes : List Byte) : List Bool := bytes.flatMap bitsOfByte

/-- The byte of eight bits, most significant first. -/
def byteOfBits (b7 b6 b5 b4 b3 b2 b1 b0 : Bool) : Byte :=
  BitVec.ofNat 8 (b7.toNat * 128 + b6.toNat * 64 + b5.toNat * 32 + b4.toNat * 16 +
    b3.toNat * 8 + b2.toNat * 4 + b1.toNat * 2 + b0.toNat)

/-- The complete bytes of a run of bits (R151: "Eight bits make a complete byte"). -/
def completeBytes : List Bool → List Byte
  | b7 :: b6 :: b5 :: b4 :: b3 :: b2 :: b1 :: b0 :: rest =>
    byteOfBits b7 b6 b5 b4 b3 b2 b1 b0 :: completeBytes rest
  | _ => []

/-- The telegram that carries a request row; none for the other rows. -/
def Instr.telegram? (i : Instr) : Option (List Byte) :=
  i.request?.map fun r => requestTelegram r.1 r.2.2.1 r.2.2.2

end Sys2Proof
end

