-- ==== Sys2Proof/Machine/State.lean ====
section
/-! DEFINITION. The state of the part, block by block, and its value after power-on reset. Plain data throughout. -/

namespace Sys2Proof.Machine

/-! ### Families indexed by a sector or a link -/

/-- One value for each sector. -/
structure PerSector (α : Type) where
  s0 : α
  s1 : α
  s2 : α
  deriving DecidableEq, Repr

/-- One value for each link. -/
structure PerLink (α : Type) where
  l0 : α
  l1 : α
  l2 : α
  l3 : α
  deriving DecidableEq, Repr

/-! ### Frame Timing Unit (chapter 2) -/

/-- The timing state (R22 to R27), in the order of R167's READ TIMING layout. -/
inductive TimingState where
  | free | locked | holdover
  deriving DecidableEq, Repr

/-- A set of timing parameters: frame period, pulse tolerance, relock count (R31). -/
structure TimingSet where
  p : Nat
  t : Nat
  k : Nat
  deriving DecidableEq, Repr

/-- The Frame Timing Unit. -/
structure Ftu where
  state : TimingState
  /-- The first reference clock edge after power-on reset has not come yet (R34). -/
  fresh : Bool
  /-- Reference clock edges since the current frame started (R19). -/
  count : Nat
  /-- Number of the current frame, 0 to 4095. -/
  frame : Nat
  /-- Holdover frame count, 0 to 4095 (R25). -/
  h : Nat
  /-- Qualifying pulses towards relock, 0 to 15 (R26). -/
  goodRun : Nat
  /-- Last pulse interval (R29). -/
  interval : Nat
  /-- Running count of edges since the latest pulse, stopping at 1,048,575 (R29). -/
  running : Nat
  /-- A pulse has been taken since power-on reset (R29). -/
  pulseSeen : Bool
  /-- Level of the frame pulse input at the latest edge, true when asserted (R19, R34). -/
  sampled : Bool
  /-- 16-bit counters that stop at 65,535 (R30). -/
  glitch : Nat
  missed : Nat
  stray : Nat
  /-- The set in force (R31). -/
  inForce : TimingSet
  /-- The pending set, if one is held (R31). -/
  pendingSet : Option TimingSet
  deriving DecidableEq, Repr

/-! ### Policy Table (chapter 1) -/

/-- One flag for each sector pair (R5). -/
structure Adjacency where
  p01 : Bool
  p12 : Bool
  p02 : Bool
  deriving DecidableEq, Repr

/-- The rights of a link (R159). -/
structure Rights where
  policy : Bool
  sector : Bool
  read : Bool
  deriving DecidableEq, Repr

/-- The window-open and window-close slots, set as a pair (R8). -/
structure Window where
  o : Nat
  w : Nat
  deriving DecidableEq, Repr

/-- The Policy Table (R8). -/
structure Policy where
  n : Nat
  d : Nat
  window : Window
  pendingWindow : Option Window
  g : Nat
  umin : Nat
  z : Nat
  e : Nat
  bn : Nat
  bl : Nat
  m : Nat
  hlim : Nat
  alim : Nat
  hold : Nat
  adjacency : Adjacency
  masks : PerSector TileMask
  rights : PerLink Rights
  pins : PerSector (Option Link)
  deriving DecidableEq, Repr

/-! ### Subscriber Table (chapter 3) -/

/-- The terms of a record (R38). -/
structure Terms where
  weight : Nat
  resDL : Nat
  resUL : Nat
  cap : Nat
  deriving DecidableEq, Repr

/-- Where a record in use is bound: the states ADMITTED, ACTIVE and MOVING of R36 with the fields each carries. -/
inductive Attachment where
  | unbound
  | active (home : SectorId) (handle : Nat)
  | moving (home : SectorId) (handle : Nat) (target : SectorId) (frames : Nat)
  deriving DecidableEq, Repr

/-- What a record in use holds (R35), with the Move Unit's lapse mark for it (R137). -/
structure Occupant where
  suspended : Bool
  id : Nat
  terms : Terms
  attachment : Attachment
  demandDL : Nat
  demandUL : Nat
  cls : Nat
  ta : Nat
  creditDL : Nat
  creditUL : Nat
  age : Nat
  lapse : Option SectorId
  deriving DecidableEq, Repr

/-- A record of the table. It is FREE when it has no occupant, and then holds its generation alone (R35). -/
structure Record where
  generation : Nat
  occupant : Option Occupant
  deriving DecidableEq, Repr

/-! ### Sector Unit (chapters 4 and 5) -/

/-- The state of a sector. A SILENT or PRESENT sector has a bound link and the others have none (R54). -/
inductive SectorState where
  | disabled
  | unbound
  | silent (link : Link)
  | present (link : Link)
  deriving DecidableEq, Repr

/-- An entry of a handle map (R61). -/
structure MapEntry where
  handle : Nat
  index : RecIdx
  generation : Nat
  deriving DecidableEq, Repr

/-- What the Sector Unit holds for a sector (R54). -/
structure Sector where
  state : SectorState
  missed : Nat
  batchSeen : Bool
  /-- The handle map, in rising handle order. -/
  map : List MapEntry
  /-- The service ring, the record of longest standing first. -/
  ring : List RecIdx
  dlHead : Option RecIdx
  ulHead : Option RecIdx
  deriving DecidableEq, Repr

/-! ### Move Unit (chapter 9) -/

/-- A notice (R137). -/
structure Notice where
  id : Nat
  index : RecIdx
  generation : Nat
  source : SectorId
  ta : Nat
  cls : Nat
  terms : Terms
  frames : Nat
  deriving DecidableEq, Repr

/-! ### Plan Builder (chapters 6 and 7) -/

/-- Downlink or uplink. -/
inductive Dir where
  | dl | ul
  deriving DecidableEq, Repr

/-- The three passes of a direction (R91). -/
inductive Pass where
  | r | s | l
  deriving DecidableEq, Repr

/-- A record entry of the snapshot (R89), with both demands already 0 where the report has aged (R40). -/
structure Entry where
  index : RecIdx
  generation : Nat
  home : SectorId
  handle : Nat
  terms : Terms
  cls : Nat
  ta : Nat
  outer : Bool
  creditDL : Nat
  creditUL : Nat
  demandDL : Nat
  demandUL : Nat
  deriving DecidableEq, Repr

/-- A place of a snapshot ring: a record, and its entry if it takes part in the build (R88). -/
structure SnapRecord where
  index : RecIdx
  generation : Nat
  entry : Option Entry
  deriving DecidableEq, Repr

/-- What the snapshot holds for a sector of the precedence (R86, R88). -/
structure SnapSector where
  id : SectorId
  ring : List SnapRecord
  dlHead : Option RecIdx
  ulHead : Option RecIdx
  mask : TileMask
  deriving DecidableEq, Repr

/-- The snapshot of a build (R86); `sectors` stand in precedence order (R87). -/
structure Snapshot where
  frame : Nat
  d : Nat
  g : Nat
  umin : Nat
  z : Nat
  alim : Nat
  n : Nat
  adjacency : Adjacency
  budget : Nat
  mh : Nat
  sectors : List SnapSector
  deriving DecidableEq, Repr

/-- One assignment of the working tile occupancy, with the zone of its assignee (R84, R120). -/
structure Assignment where
  sector : SectorId
  tile : Nat
  index : RecIdx
  outer : Bool
  deriving DecidableEq, Repr

/-- The working fields of a snapshot record in one direction (R84). -/
structure WorkRecord where
  index : RecIdx
  need : Nat
  credit : Nat
  blocked : Bool
  deriving DecidableEq, Repr

/-- A grant being built (R100). -/
structure WorkGrant where
  entry : Entry
  tiles : List Nat
  nR : Nat
  nS : Nat
  nL : Nat
  deriving DecidableEq, Repr

/-- A working head: a snapshot record by index and generation (R99, R105). -/
structure WorkHead where
  index : RecIdx
  generation : Nat
  deriving DecidableEq, Repr

/-- The working state of one direction: the records' working fields, the grants in the order they were started
(R124), the record that took each sector's last Pass S tile (R96), and the working heads (R99). -/
structure DirWork where
  records : List WorkRecord
  grants : List WorkGrant
  lastS : PerSector (Option RecIdx)
  heads : PerSector (Option WorkHead)
  deriving DecidableEq, Repr

/-- The position of a build: direction, pass, round, sector and record reached (R84). -/
structure Position where
  dir : Dir
  pass : Pass
  round : Nat
  sector : Option SectorId
  record : Option RecIdx
  deriving DecidableEq, Repr

/-- The working state of a build (R84). -/
structure Work where
  occupancy : List Assignment
  dlCount : Nat
  dl : DirWork
  ul : DirWork
  position : Position
  deriving DecidableEq, Repr

/-- A build in flight: its snapshot (with the frame number it builds), its working state, and the reference clock
edges since the edge that carried its build start (R84, R102). -/
structure Build where
  snapshot : Snapshot
  work : Work
  age : Nat
  deriving DecidableEq, Repr

/-! ### Plan Store (chapter 8) -/

/-- A grant of a plan record (R122). -/
structure Grant where
  index : RecIdx
  generation : Nat
  handle : Nat
  dir : Dir
  tiles : List Nat
  nR : Nat
  nS : Nat
  nL : Nat
  bytes : Nat
  trimmed : Bool
  void : Bool
  deriving DecidableEq, Repr

/-- The summary of a sector in one direction (R101). -/
structure Summary where
  tiles : Nat
  served : Nat
  unmet : Nat
  blocked : Nat
  deriving DecidableEq, Repr

/-- What a plan holds for a sector in it (R122, R124). -/
structure SectorPlan where
  grants : List Grant
  dl : Summary
  ul : Summary
  deriving DecidableEq, Repr

/-- The contents of a plan record that is not EMPTY; a sector not in the plan has none (R122). -/
structure Plan where
  d : Nat
  g : Nat
  mh : Nat
  budget : Nat
  used : Nat
  sectors : PerSector (Option SectorPlan)
  deriving DecidableEq, Repr

/-- Status and contents of LIVE (R123). The overrun flag is clear in a BUILT plan, set in a REPEATED one, and held
by an EMPTY one. -/
inductive LivePlan where
  | empty (overrun : Bool)
  | built (plan : Plan)
  | repeated (plan : Plan)
  deriving DecidableEq, Repr

/-- LIVE: its frame number, status and contents. -/
structure Live where
  frame : Nat
  plan : LivePlan
  deriving DecidableEq, Repr

/-- A BUILT NEXT: its frame number and contents. -/
structure NextPlan where
  frame : Nat
  plan : Plan
  deriving DecidableEq, Repr

/-! ### Link Ports (chapter 10) -/

/-- One entry per attention cause (R161). -/
structure Causes where
  linkFault : Bool
  planReady : Bool
  handover : Bool
  sectorState : Bool
  timing : Bool
  deriving DecidableEq, Repr

/-- The status of a response (R167). -/
inductive Status where
  | ok | okClamped | part | empty
  | range | noRight | notBound | inUse | duplicate | tableFull | noSubscriber
  | sectorDisabled | sectorPinned | sectorTaken | boundElsewhere | handleInUse | noHandle | windowClosed
  | notActive | suspended | targetSilent | noticeFull | queueEmpty | notMoving | tooLate | notYet | stale
  | lastPolicy
  | framing | badLength | badChecksum | unknownKind | holdTimeout
  deriving DecidableEq, Repr

/-- A response telegram without its length and checksum, which follow from the rest (R152). -/
structure Response where
  status : Status
  tag : Byte
  kind : Byte
  body : List Byte
  deriving DecidableEq, Repr

/-- The five error counters of a link, each 0 to 255 (R156). -/
structure Errors where
  framing : Nat
  badLength : Nat
  badChecksum : Nat
  unknownKind : Nat
  holdTimeout : Nat
  deriving DecidableEq, Repr

/-- A Link Port (R151 to R165). -/
structure Port where
  /-- The select line is asserted: a select period is in progress. -/
  selected : Bool
  /-- Hold limit read at the assertion (R155). -/
  hold : Nat
  /-- Slot-boundary events counted in the period (R155). -/
  slots : Nat
  /-- The period has timed out (R155). -/
  timedOut : Bool
  /-- Bits clocked in before any timeout, the oldest first. -/
  bitsIn : List Bool
  /-- The telegram that goes out in the period, fixed at the assertion (R151). -/
  outgoing : List Byte
  /-- Whether that telegram is a held response, not the EMPTY response. -/
  heldOut : Bool
  /-- Bits driven on data out in the present or latest period, the oldest first. -/
  bitsOut : List Bool
  /-- The response buffer. -/
  buffer : Option Response
  errors : Errors
  /-- Pending attention causes. -/
  causes : Causes
  /-- Kept when PLAN READY is cleared (DEDUCED, notes/assumptions/11.md). -/
  readyFrame : Nat
  mask : Causes
  deriving DecidableEq, Repr

/-! ### The part -/

/-- The state of the part: its blocks, the power-low line's level, and the queue of commands that wait (the model's
own field, as the task asks: first in, first out). -/
structure State where
  ftu : Ftu
  policy : Policy
  table : Vector Record 192
  sectors : PerSector Sector
  windowOpen : Bool
  queues : PerSector (List Notice)
  builder : Option Build
  live : Live
  next : Option NextPlan
  ports : PerLink Port
  powerLow : Bool
  pending : List Instr
  deriving DecidableEq, Repr

/-- Reasons a step could stop with a fault. There is none: the manual gives every command an effect or an answer in
every state, so no meaning of this model ends in a fault. -/
inductive Fault where
  deriving DecidableEq, Repr

/-- Reasons a command could be refused. -/
inductive Refusal where
  /-- No meaning has been written for the command of this mnemonic. Raised only by an arm of `exec`; no arm raises
  it in this model. Safe: the machine stops where the hardware goes on. -/
  | notModelled (mnemonic : String)
  deriving DecidableEq, Repr

/-! ### Power-on reset -/

/-- R34. The count before the first edge, which R34 makes 0 only at that edge, and the running count are the model's
(DESIGN CHOICE, notes/assumptions/2.md). -/
def Ftu.reset : Ftu where
  state := .free
  fresh := true
  count := 0
  frame := 0
  h := 0
  goodRun := 0
  interval := 0
  running := 0
  pulseSeen := false
  sampled := false
  glitch := 0
  missed := 0
  stray := 0
  inForce := { p := 192000, t := 64, k := 4 }
  pendingSet := none

/-- R18. -/
def Policy.reset : Policy where
  n := 3
  d := 10
  window := { o := 2, w := 12 }
  pendingWindow := none
  g := 4
  umin := 8
  z := 160
  e := 640
  bn := 216
  bl := 96
  m := 3
  hlim := 8
  alim := 50
  hold := 2
  adjacency := { p01 := true, p12 := true, p02 := true }
  masks := { s0 := 3#96, s1 := 3#96, s2 := 3#96 }
  rights :=
    { l0 := { policy := true, sector := true, read := true }
      l1 := { policy := true, sector := true, read := true }
      l2 := { policy := true, sector := true, read := true }
      l3 := { policy := true, sector := true, read := true } }
  pins := { s0 := none, s1 := none, s2 := none }

/-- R54, R70. -/
def Sector.reset : Sector where
  state := .unbound
  missed := 0
  batchSeen := false
  map := []
  ring := []
  dlHead := none
  ulHead := none

/-- No cause pending, or every cause disabled. -/
def noCauses : Causes where
  linkFault := false
  planReady := false
  handover := false
  sectorState := false
  timing := false

/-- Every cause enabled. -/
def everyCause : Causes where
  linkFault := true
  planReady := true
  handover := true
  sectorState := true
  timing := true

/-- All counters 0. -/
def Errors.zero : Errors where
  framing := 0
  badLength := 0
  badChecksum := 0
  unknownKind := 0
  holdTimeout := 0

/-- R165, with the select line taken as released. The receive state is cleared; the hold limit of a period is read
at its assertion, so its value here is never used (DESIGN CHOICE 0, notes/assumptions/2.md). -/
def Port.reset : Port where
  selected := false
  hold := 0
  slots := 0
  timedOut := false
  bitsIn := []
  outgoing := []
  heldOut := false
  bitsOut := []
  buffer := none
  errors := Errors.zero
  causes := noCauses
  readyFrame := 0
  mask := everyCause

/-- The part right after power-on reset: each block at the value its own chapter states, the power-low line
released (DESIGN CHOICE, notes/assumptions/2.md) and no command waiting. -/
def State.reset : State where
  ftu := Ftu.reset
  policy := Policy.reset
  table := Vector.replicate 192 { generation := 0, occupant := none }
  sectors := { s0 := Sector.reset, s1 := Sector.reset, s2 := Sector.reset }
  windowOpen := false
  queues := { s0 := [], s1 := [], s2 := [] }
  builder := none
  live := { frame := 0, plan := .empty false }
  next := none
  ports := { l0 := Port.reset, l1 := Port.reset, l2 := Port.reset, l3 := Port.reset }
  powerLow := false
  pending := []

end Sys2Proof.Machine
end

