-- ==== Sys2Proof/Machine/Operands.lean ====
section
/-! DEFINITION. Operand forms: the fields of request bodies read at their whole width, and the values of response
bodies written at theirs (R166, R167). -/

namespace Sys2Proof.Machine

/-! ### Names as numbers -/

/-- A sector's number (00_scope). -/
def sectorNo : SectorId → Nat
  | .s0 => 0 | .s1 => 1 | .s2 => 2

/-- The sector a number names; a number above 2 names none. -/
def sectorOf : Nat → Option SectorId
  | 0 => some .s0 | 1 => some .s1 | 2 => some .s2 | _ => none

/-- A link's number (00_scope). -/
def linkNo : Link → Nat
  | .l0 => 0 | .l1 => 1 | .l2 => 2 | .l3 => 3

/-- The link a number names; a number above 3 names none. -/
def linkOf : Nat → Option Link
  | 0 => some .l0 | 1 => some .l1 | 2 => some .l2 | 3 => some .l3 | _ => none

/-- The sectors in rising order. -/
def allSectors : List SectorId := [.s0, .s1, .s2]

/-- The links in rising order. -/
def allLinks : List Link := [.l0, .l1, .l2, .l3]

/-- The record indices in rising order. -/
def allRecords : List RecIdx := List.finRange 192

/-! ### Fields of a request body, least significant byte first -/

/-- A two-byte field (R166). -/
def field16 (b0 b1 : Byte) : Nat := b0.toNat + 256 * b1.toNat

/-- A three-byte field (R166). -/
def field24 (b0 b1 b2 : Byte) : Nat := b0.toNat + 256 * b1.toNat + 65536 * b2.toNat

/-- A frame-number field: its top four bits are ignored on receipt (R166). -/
def fieldFrame (b0 b1 : Byte) : Nat := field16 b0 b1 % 4096

/-- The link field of PIN SECTOR: 0 to 3 for L0 to L3, 255 for none; any other value is out of range. -/
def fieldPin (b : Byte) : Option (Option Link) :=
  if b = 255 then some none else (linkOf b.toNat).map some

/-- The three-byte groups of a SET POLICY body: identifier, low byte, high byte; none when the length is no multiple
of 3 (R166). -/
def policyTriples : List Byte → Option (List (Byte × Byte × Byte))
  | [] => some []
  | i :: lo :: hi :: rest => (policyTriples rest).map ((i, lo, hi) :: ·)
  | _ => none

/-- A report entry of a DEMAND BATCH (R166). -/
structure ReportEntry where
  handle : Nat
  demandDL : Nat
  demandUL : Nat
  cls : Nat
  ta : Nat
  deriving DecidableEq, Repr

/-- The eight-byte entries of a DEMAND BATCH body after its count; none when a group is short (R166). -/
def reportEntries : List Byte → Option (List ReportEntry)
  | [] => some []
  | h :: d0 :: d1 :: u0 :: u1 :: c :: t0 :: t1 :: rest =>
    (reportEntries rest).map
      ({ handle := h.toNat, demandDL := field16 d0 d1, demandUL := field16 u0 u1, cls := c.toNat,
         ta := field16 t0 t1 } :: ·)
  | _ => none

/-- The mask of the twelve bytes of SET BAR MASK: tile `t` is bit `t mod 8` of byte `floor(t / 8)` (R166). -/
def maskOfBytes (bytes : List Byte) : TileMask :=
  BitVec.ofNat 96 (bytes.foldr (fun b acc => b.toNat + 256 * acc) 0)

/-- Terms carried by ADMIT and SET TERMS, each value clamped to its range (R38). -/
def clampTerms (w rd ru cap : Byte) : Terms where
  weight := clampTo 1 15 w.toNat
  resDL := clampTo 0 4 rd.toNat
  resUL := clampTo 0 4 ru.toNat
  cap := clampTo 1 32 cap.toNat

/-- Whether any term was clamped (R45, R46). -/
def termsClamped (w rd ru cap : Byte) : Bool :=
  decide (clampTerms w rd ru cap ≠
    { weight := w.toNat, resDL := rd.toNat, resUL := ru.toNat, cap := cap.toNat })

/-! ### Values of a response body -/

/-- A one-byte value. -/
def put8 (n : Nat) : List Byte := [BitVec.ofNat 8 n]

/-- A two-byte value, least significant byte first. -/
def put16 (n : Nat) : List Byte := [BitVec.ofNat 8 n, BitVec.ofNat 8 (n / 256)]

/-- A three-byte value, least significant byte first. -/
def put24 (n : Nat) : List Byte := [BitVec.ofNat 8 n, BitVec.ofNat 8 (n / 256), BitVec.ofNat 8 (n / 65536)]

/-- A flag: 1 for set and 0 for clear (R167). -/
def putFlag (b : Bool) : List Byte := put8 b.toNat

/-- A link, or 255 for none (R167). -/
def putLink? : Option Link → List Byte
  | some l => put8 (linkNo l)
  | none => put8 255

/-- A sector, or 255 for none (R167). -/
def putSector? : Option SectorId → List Byte
  | some k => put8 (sectorNo k)
  | none => put8 255

/-- The four terms (R45, R46). -/
def putTerms (t : Terms) : List Byte := put8 t.weight ++ put8 t.resDL ++ put8 t.resUL ++ put8 t.cap

/-- A sector state by its position in R54's list (R167). -/
def sectorStateNo : SectorState → Nat
  | .disabled => 0 | .unbound => 1 | .silent _ => 2 | .present _ => 3

/-- A record state by its position in R35's list (R167). -/
def recordStateNo (r : Record) : Nat :=
  match r.occupant with
  | none => 0
  | some o => match o.attachment with
    | .unbound => 1 | .active _ _ => 2 | .moving _ _ _ _ => 3

/-- A timing state in READ TIMING (R167). -/
def timingStateNo : TimingState → Nat
  | .free => 0 | .locked => 1 | .holdover => 2

/-- The twelve bytes of a mask (R166). -/
def putMask (m : TileMask) : List Byte :=
  (List.range 12).map fun i => BitVec.ofNat 8 (m.toNat / 2 ^ (8 * i))

/-! ### Responses -/

/-- The status value (R167). -/
def statusNo : Status → Nat
  | .ok => 0 | .okClamped => 1 | .part => 2 | .empty => 3
  | .range => 16 | .noRight => 17 | .notBound => 18 | .inUse => 19 | .duplicate => 20 | .tableFull => 21
  | .noSubscriber => 22 | .sectorDisabled => 23 | .sectorPinned => 24 | .sectorTaken => 25
  | .boundElsewhere => 26 | .handleInUse => 27 | .noHandle => 28 | .windowClosed => 29 | .notActive => 30
  | .suspended => 31 | .targetSilent => 32 | .noticeFull => 33 | .queueEmpty => 34 | .notMoving => 35
  | .tooLate => 36 | .notYet => 37 | .stale => 38 | .lastPolicy => 39
  | .framing => 48 | .badLength => 49 | .badChecksum => 50 | .unknownKind => 51 | .holdTimeout => 52

/-- The bytes of a response telegram: status, tag echo, kind echo, length, body, checksum (R152, R166). -/
def responseTelegram (r : Response) : List Byte :=
  let head : List Byte :=
    BitVec.ofNat 8 (statusNo r.status) :: r.tag :: r.kind :: BitVec.ofNat 8 r.body.length :: r.body
  head ++ [checksum head]

/-- The EMPTY response (R151). -/
def emptyResponse : Response where
  status := .empty
  tag := 0
  kind := 0
  body := []

end Sys2Proof.Machine
end

