-- ==== Sys2Proof/Machine/Flags.lean ====
section
/-! DEFINITION. Flag and set fields: rights, attention causes and masks, adjacency, and the ranking of causes. -/

namespace Sys2Proof.Machine

/-- The rights of a set field: bit 0 POLICY, bit 1 SECTOR, bit 2 READ; the other bits are ignored (R166). -/
def rightsOf (b : Byte) : Rights where
  policy := b.getLsbD 0
  sector := b.getLsbD 1
  read := b.getLsbD 2

/-- A rights set field (R166). -/
def putRights (r : Rights) : List Byte :=
  put8 (r.policy.toNat + 2 * r.sector.toNat + 4 * r.read.toNat)

/-- The causes of a set field: LINK FAULT, PLAN READY, HANDOVER, SECTOR STATE, TIMING from bit 0 (R166). -/
def causesOf (b : Byte) : Causes where
  linkFault := b.getLsbD 0
  planReady := b.getLsbD 1
  handover := b.getLsbD 2
  sectorState := b.getLsbD 3
  timing := b.getLsbD 4

/-- An attention set field (R166). -/
def putCauses (c : Causes) : List Byte :=
  put8 (c.linkFault.toNat + 2 * c.planReady.toNat + 4 * c.handover.toNat + 8 * c.sectorState.toNat +
    16 * c.timing.toNat)

/-- The causes in both of two sets. -/
def Causes.and (a b : Causes) : Causes where
  linkFault := a.linkFault && b.linkFault
  planReady := a.planReady && b.planReady
  handover := a.handover && b.handover
  sectorState := a.sectorState && b.sectorState
  timing := a.timing && b.timing

/-- Whether a set holds any cause. -/
def Causes.any (c : Causes) : Bool :=
  c.linkFault || c.planReady || c.handover || c.sectorState || c.timing

/-- The bit number of the highest-ranked cause of a set: LINK FAULT, PLAN READY, HANDOVER, SECTOR STATE, TIMING
(R162, R167). -/
def Causes.top? (c : Causes) : Option Nat :=
  if c.linkFault then some 0
  else if c.planReady then some 1
  else if c.handover then some 2
  else if c.sectorState then some 3
  else if c.timing then some 4
  else none

/-- The adjacency flags of a SET POLICY value; the other bits are ignored (R166). -/
def adjacencyOf (b : Byte) : Adjacency where
  p01 := b.getLsbD 0
  p12 := b.getLsbD 1
  p02 := b.getLsbD 2

/-- The adjacency flags as a set field (R166). -/
def putAdjacency (a : Adjacency) : List Byte :=
  put8 (a.p01.toNat + 2 * a.p12.toNat + 4 * a.p02.toNat)

/-- Whether two different sectors are adjacent; the flags are symmetric (R5). -/
def Adjacency.between (a : Adjacency) : SectorId → SectorId → Bool
  | .s0, .s1 => a.p01
  | .s1, .s0 => a.p01
  | .s1, .s2 => a.p12
  | .s2, .s1 => a.p12
  | .s0, .s2 => a.p02
  | .s2, .s0 => a.p02
  | .s0, .s0 => false
  | .s1, .s1 => false
  | .s2, .s2 => false

end Sys2Proof.Machine
end

