-- ==== Sys2Proof/Machine/Ops.lean ====
section
/-! DEFINITION. The named operations over the part's state that the commands share: reading and writing one sector,
link or record, raising and clearing causes, rings and handle maps, notices, ends of moves, voiding, releases, and
the taking of a request. -/

namespace Sys2Proof.Machine

/-! ### Families -/

/-- The value of a sector. -/
def PerSector.get {α : Type} (p : PerSector α) : SectorId → α
  | .s0 => p.s0
  | .s1 => p.s1
  | .s2 => p.s2

/-- The family with one sector's value replaced. -/
def PerSector.set {α : Type} (p : PerSector α) (k : SectorId) (v : α) : PerSector α :=
  match k with
  | .s0 => { p with s0 := v }
  | .s1 => { p with s1 := v }
  | .s2 => { p with s2 := v }

/-- The family of the values of a function. -/
def PerSector.of {α : Type} (f : SectorId → α) : PerSector α where
  s0 := f .s0
  s1 := f .s1
  s2 := f .s2

/-- The value of a link. -/
def PerLink.get {α : Type} (p : PerLink α) : Link → α
  | .l0 => p.l0
  | .l1 => p.l1
  | .l2 => p.l2
  | .l3 => p.l3

/-- The family with one link's value replaced. -/
def PerLink.set {α : Type} (p : PerLink α) (l : Link) (v : α) : PerLink α :=
  match l with
  | .l0 => { p with l0 := v }
  | .l1 => { p with l1 := v }
  | .l2 => { p with l2 := v }
  | .l3 => { p with l3 := v }

/-- The family of the values of a function. -/
def PerLink.of {α : Type} (f : Link → α) : PerLink α where
  l0 := f .l0
  l1 := f .l1
  l2 := f .l2
  l3 := f .l3

/-! ### Reading the state -/

/-- A record of the table. -/
def State.record (s : State) (i : RecIdx) : Record := s.table.get i

/-- The occupant of a record; none when the record is FREE. -/
def State.occupant (s : State) (i : RecIdx) : Option Occupant := (s.record i).occupant

/-- A sector. -/
def State.sector (s : State) (k : SectorId) : Sector := s.sectors.get k

/-- A Link Port. -/
def State.port (s : State) (l : Link) : Port := s.ports.get l

/-- The notice queue of a sector. -/
def State.queue (s : State) (k : SectorId) : List Notice := s.queues.get k

/-- The rights of a link. -/
def State.rights (s : State) (l : Link) : Rights := s.policy.rights.get l

/-- The link a sector is bound to (R54). -/
def SectorState.link? : SectorState → Option Link
  | .disabled => none
  | .unbound => none
  | .silent l => some l
  | .present l => some l

/-- The sector a link has bound (R57: at most one). -/
def State.boundSector (s : State) (l : Link) : Option SectorId :=
  allSectors.find? fun k => (s.sector k).state.link? = some l

/-- Whether a sector is PRESENT. -/
def SectorState.isPresent : SectorState → Bool
  | .disabled => false
  | .unbound => false
  | .silent _ => false
  | .present _ => true

/-- The record in use that holds an id, the lowest index first (R43; ids are unique, R44). -/
def State.findById (s : State) (id : Nat) : Option (RecIdx × Occupant) :=
  allRecords.findSome? fun i =>
    match s.occupant i with
    | some o => if o.id = id then some (i, o) else none
    | none => none

/-- The FREE record with the lowest index (R45). -/
def State.lowestFree (s : State) : Option RecIdx :=
  allRecords.find? fun i => (s.occupant i).isNone

/-- The home sector and handle of a record that is ACTIVE or MOVING. -/
def Attachment.place? : Attachment → Option (SectorId × Nat)
  | .unbound => none
  | .active k h => some (k, h)
  | .moving k h _ _ => some (k, h)

/-- The move target and frames remaining of a MOVING record. -/
def Attachment.move? : Attachment → Option (SectorId × Nat)
  | .unbound => none
  | .active _ _ => none
  | .moving _ _ t n => some (t, n)

/-- Whether a record is MOVING with a target. -/
def Attachment.movesTo (t : SectorId) (a : Attachment) : Bool :=
  match a.move? with
  | some (t', _) => decide (t' = t)
  | none => false

/-- The record of a handle, through a sector's handle map (R61). -/
def State.lookup (s : State) (k : SectorId) (handle : Nat) : Option (RecIdx × Occupant) :=
  match (s.sector k).map.find? fun e => e.handle = handle with
  | some e => (s.occupant e.index).map fun o => (e.index, o)
  | none => none

/-- The holdover margin Mh in symbol periods, from the timing state and H (R28). -/
def Ftu.margin (f : Ftu) : Nat :=
  match f.state with
  | .locked => 0
  | .holdover => min (f.h / 32) 8
  | .free => 8

/-! ### Writing one place of the state -/

/-- The state with a record replaced. -/
def State.setRecord (s : State) (i : RecIdx) (r : Record) : State :=
  { s with table := s.table.set i.val r i.isLt }

/-- The state with a record's occupant replaced and its generation kept. -/
def State.setOccupant (s : State) (i : RecIdx) (o : Option Occupant) : State :=
  s.setRecord i { generation := (s.record i).generation, occupant := o }

/-- The state with the occupant of every record in use put through a function. -/
def State.mapOccupants (f : RecIdx → Occupant → Occupant) (s : State) : State :=
  { s with
    table := Vector.ofFn fun i =>
      { generation := (s.record i).generation, occupant := (s.occupant i).map (f i) } }

/-- The state with a sector replaced. -/
def State.setSector (s : State) (k : SectorId) (v : Sector) : State :=
  { s with sectors := s.sectors.set k v }

/-- The state with a port replaced. -/
def State.setPort (s : State) (l : Link) (p : Port) : State :=
  { s with ports := s.ports.set l p }

/-- The state with every port put through a function. -/
def State.mapPorts (f : Link → Port → Port) (s : State) : State :=
  { s with ports := PerLink.of fun l => f l (s.port l) }

/-! ### Attention causes (R161) -/

/-- The port with its pending causes replaced. -/
def Port.withCauses (p : Port) (c : Causes) : Port := { p with causes := c }

/-- SECTOR STATE is raised on all four links (R55). -/
def State.raiseSectorState (s : State) : State :=
  s.mapPorts fun _ p => p.withCauses { p.causes with sectorState := true }

/-- TIMING is raised on all four links (R33). -/
def State.raiseTiming (s : State) : State :=
  s.mapPorts fun _ p => p.withCauses { p.causes with timing := true }

/-- PLAN READY is raised with a ready frame on the link bound to each sector that is PRESENT (R133). -/
def State.raisePlanReady (frame : Nat) (s : State) : State :=
  s.mapPorts fun l p =>
    if allSectors.any fun k => decide ((s.sector k).state = .present l) then
      { p with causes := { p.causes with planReady := true }, readyFrame := frame }
    else p

/-- HANDOVER is made pending, or cleared, on a link. -/
def State.setHandover (s : State) (l : Link) (pending : Bool) : State :=
  s.setPort l ((s.port l).withCauses { (s.port l).causes with handover := pending })

/-- Whether the attention line of a link is asserted: some cause is both pending and enabled (R161). -/
def State.attentionLine (s : State) (l : Link) : Bool :=
  ((s.port l).causes.and (s.port l).mask).any

/-! ### Handle maps (R61) -/

/-- A handle map with an entry added at its place in rising handle order. -/
def mapInsert (e : MapEntry) : List MapEntry → List MapEntry
  | [] => [e]
  | f :: rest => if e.handle < f.handle then e :: f :: rest else f :: mapInsert e rest

/-- A handle map without the entries of a handle. -/
def mapErase (handle : Nat) (m : List MapEntry) : List MapEntry :=
  m.filter fun e => e.handle ≠ handle

/-! ### Service rings (R66 to R68) -/

/-- The member that follows `i` in a list, if one does. -/
def nextAfter (i : RecIdx) : List RecIdx → Option RecIdx
  | [] => none
  | [_] => none
  | a :: b :: rest => if a = i then some b else nextAfter i (b :: rest)

/-- The successor of a record in a ring: the record that joined next after it, and the first after the last (R66). -/
def ringSuccessor (i : RecIdx) (ring : List RecIdx) : Option RecIdx :=
  if i ∈ ring then (nextAfter i ring).orElse fun _ => ring.head? else none

/-- A head after a record leaves: a head standing on it moves to its successor, or becomes absent when the ring is
empty (R68). -/
def headAfterLeave (i : RecIdx) (ring : List RecIdx) (head : Option RecIdx) : Option RecIdx :=
  if head = some i then
    match ringSuccessor i ring with
    | some j => if j = i then none else some j
    | none => none
  else head

/-- A sector after a record leaves it: its handle's entry and its place in the ring go together (R61, R68). -/
def Sector.leave (v : Sector) (handle : Nat) (i : RecIdx) : Sector :=
  { v with
    map := mapErase handle v.map
    ring := v.ring.erase i
    dlHead := headAfterLeave i v.ring v.dlHead
    ulHead := headAfterLeave i v.ring v.ulHead }

/-- A sector after a record joins it: as the last of the ring, and under both heads when the ring was empty (R67). -/
def Sector.join (v : Sector) (handle : Nat) (i : RecIdx) (generation : Nat) : Sector :=
  { v with
    map := mapInsert { handle := handle, index := i, generation := generation } v.map
    ring := v.ring ++ [i]
    dlHead := if v.ring = [] then some i else v.dlHead
    ulHead := if v.ring = [] then some i else v.ulHead }

/-- The head of a direction. -/
def Sector.head (v : Sector) : Dir → Option RecIdx
  | .dl => v.dlHead
  | .ul => v.ulHead

/-! ### Notice queues and the ends of moves (chapter 9) -/

/-- A sector's notice queue is replaced, and HANDOVER on the sector's bound link follows: pending exactly while the
queue holds a notice (R140). -/
def State.setQueue (s : State) (k : SectorId) (q : List Notice) : State :=
  let s := { s with queues := s.queues.set k q }
  match (s.sector k).state.link? with
  | some l => s.setHandover l (!q.isEmpty)
  | none => s

/-- Whether a queue holds the notice of a record's occupancy. -/
def noticeQueued (i : RecIdx) (q : List Notice) : Bool := q.any fun n => n.index = i

/-- The notice of a record is withdrawn from a sector's queue, if it is still queued (R142). -/
def State.withdraw (s : State) (t : SectorId) (i : RecIdx) : State :=
  if noticeQueued i (s.queue t) then s.setQueue t ((s.queue t).filter fun n => n.index ≠ i) else s

/-- The attachment of a record whose move has ended in its source. -/
def Attachment.settled : Attachment → Attachment
  | .unbound => .unbound
  | .active k h => .active k h
  | .moving k h _ _ => .active k h

/-- A record's move ends as CANCEL MOVE ends it: ACTIVE in its source, its notice withdrawn (R146). Nothing happens to
a record that is not MOVING. -/
def State.cancelMoveOf (s : State) (i : RecIdx) : State :=
  match s.occupant i with
  | some o => match o.attachment with
    | .moving k h t _ =>
      (s.setOccupant i (some { o with attachment := .active k h })).withdraw t i
    | .unbound => s
    | .active _ _ => s
  | none => s

/-- The number of moves whose target is a sector. -/
def State.movesTo (s : State) (t : SectorId) : Nat :=
  allRecords.countP fun i =>
    match s.occupant i with
    | some o => o.attachment.movesTo t
    | none => false

/-- Every move whose target is a sector is cancelled and the sector's queue is emptied (R149). -/
def State.cancelMovesTo (s : State) (t : SectorId) : State :=
  (s.mapOccupants fun _ o =>
    if o.attachment.movesTo t then { o with attachment := o.attachment.settled } else o).setQueue t []

/-! ### Voiding (R128) -/

/-- The plan with the void flag set in every grant of a sector's list that a test picks. -/
def Plan.voidWhere (f : SectorId → Grant → Bool) (p : Plan) : Plan :=
  { p with
    sectors := PerSector.of fun k =>
      (p.sectors.get k).map fun sp =>
        { sp with grants := sp.grants.map fun g => { g with void := g.void || f k g } } }

/-- LIVE with its plan, if it holds one, put through a function. -/
def LivePlan.mapPlan (f : Plan → Plan) : LivePlan → LivePlan
  | .empty o => .empty o
  | .built p => .built (f p)
  | .repeated p => .repeated (f p)

/-- The void flag is set in LIVE, and in NEXT when it is BUILT, in every grant a test picks (R128). -/
def State.voidWhere (f : SectorId → Grant → Bool) (s : State) : State :=
  { s with
    live := { s.live with plan := s.live.plan.mapPlan (Plan.voidWhere f) }
    next := s.next.map fun n => { n with plan := n.plan.voidWhere f } }

/-- Whether a grant is for a record: its index and generation are the record's (R128). -/
def grantFor (i : RecIdx) (generation : Nat) (g : Grant) : Bool :=
  decide (g.index = i ∧ g.generation = generation)

/-- Every grant for a record is marked void in LIVE and in a BUILT NEXT, in both directions and any sector. -/
def State.voidRecord (s : State) (i : RecIdx) : State :=
  s.voidWhere fun _ g => grantFor i (s.record i).generation g

/-! ### Ends of bindings (R59) -/

/-- A sector's binding ends: moves to it are cancelled, its queue is emptied and HANDOVER cleared on the link that
loses it, the sector becomes UNBOUND with its batch-seen flag clear, and SECTOR STATE is raised (R59). -/
def State.releaseBinding (s : State) (k : SectorId) : State :=
  let s := s.cancelMovesTo k
  (s.setSector k { s.sector k with state := .unbound, batchSeen := false }).raiseSectorState

/-! ### Taking a request (R152, R157, R159) -/

/-- What an owner makes of a request: the state after it, and the status and body of the answer. -/
structure Answer where
  state : State
  status : Status
  body : List Byte

/-- A refusal: nothing changes (R153). -/
def refuse (s : State) (status : Status) (body : List Byte) : Answer where
  state := s
  status := status
  body := body

/-- A response is put into a link's response buffer, replacing what it held (R157). -/
def State.putResponse (s : State) (l : Link) (r : Response) : State :=
  s.setPort l { s.port l with buffer := some r }

/-- The right a request needs (R159). -/
inductive Need where
  | nothing | policy | sector | read | policyOrSector
  deriving DecidableEq, Repr

/-- The groups of R159. -/
def rightNeeded : ReqKind → Need
  | .setPolicy | .setBarMask | .restartScheduling | .setTiming | .pinSector | .setLinkRights
  | .admitSubscriber | .setTerms | .suspend | .resume | .remove => .policy
  | .bindSector | .releaseSector | .attach | .detach | .demandBatch | .move | .cancelMove | .claim
  | .readNotice => .sector
  | .readGrants | .readPlanSummary => .read
  | .setAttentionMask => .policyOrSector
  | .fetch | .readPolicy | .readTiming | .readSubscriber | .readSectors | .readAttention
  | .readLinkStatus => .nothing

/-- Whether a set of rights gives the one needed (R159). -/
def Rights.allow (r : Rights) : Need → Bool
  | .nothing => true
  | .policy => r.policy
  | .sector => r.sector
  | .read => r.read
  | .policyOrSector => r.policy || r.sector

/-- A request that acts on no bound sector is taken on a link: the right is checked, the owner acts, and its answer
goes into the link's buffer (R152, R159). -/
def State.serve (s : State) (kind : ReqKind) (l : Link) (tag : Byte) (owner : State → Answer) : State :=
  let echo : Byte := BitVec.ofNat 8 kind.code
  if (s.rights l).allow (rightNeeded kind) then
    let a := owner s
    a.state.putResponse l { status := a.status, tag := tag, kind := echo, body := a.body }
  else s.putResponse l { status := .noRight, tag := tag, kind := echo, body := [] }

/-- A request that acts on the link's bound sector: NOT_BOUND comes after NO_RIGHT and before the owner (R159). -/
def State.serveBound (s : State) (kind : ReqKind) (l : Link) (tag : Byte) (owner : SectorId → State → Answer) :
    State :=
  s.serve kind l tag fun s =>
    match s.boundSector l with
    | some k => owner k s
    | none => refuse s .notBound []

end Sys2Proof.Machine
end

