-- ==== Sys2Proof/Machine/Links.lean ====
section
/-! DEFINITION. Control links (chapter 10), the requests about the links themselves: FETCH, SET LINK RIGHTS, READ
ATTENTION, SET ATTENTION MASK and READ LINK STATUS. -/

namespace Sys2Proof.Machine

/-- FETCH taken on a link: no effect on any block, the response buffer left empty, its body ignored (R157, R158). -/
def takeFetch (l : Link) (_tag : Byte) (_body : List Byte) (s : State) : State :=
  s.setPort l { s.port l with buffer := none }

/-- Whether a link other than `l` holds the POLICY right (R160). -/
def otherPolicy (s : State) (l : Link) : Bool := allLinks.any fun j => decide (j ≠ l) && (s.rights j).policy

/-- SET LINK RIGHTS (R160). -/
def setLinkRightsAnswer (body : List Byte) (s : State) : Answer :=
  match body with
  | [lb, rb] =>
    match linkOf lb.toNat with
    | none => refuse s .range []
    | some j =>
      let r := rightsOf rb
      if r.policy || otherPolicy s j then
        let t := { s with policy := { s.policy with rights := s.policy.rights.set j r } }
        match if (s.rights j).sector && !r.sector then s.boundSector j else none with
        | some k =>
          { state := t.releaseBinding k, status := .ok, body := put8 (linkNo j) ++ putRights r ++ putFlag true }
        | none => { state := t, status := .ok, body := put8 (linkNo j) ++ putRights r ++ putFlag false }
      else refuse s .lastPolicy []
  | _ => refuse s .range []

/-- The six bytes of READ ATTENTION: top cause, pending set, mask, ready frame (0 unless PLAN READY is pending) and
bound sector (R162, R167). -/
def attentionBody (s : State) (l : Link) : List Byte :=
  let p := s.port l
  put8 ((p.causes.and p.mask).top?.getD 255) ++ putCauses p.causes ++ putCauses p.mask ++
    put16 (if p.causes.planReady then p.readyFrame else 0) ++ putSector? (s.boundSector l)

/-- READ ATTENTION (R162). -/
def readAttentionAnswer (l : Link) (body : List Byte) (s : State) : Answer :=
  match body with
  | [] =>
    { state := s.setPort l ((s.port l).withCauses { (s.port l).causes with sectorState := false })
      status := .ok
      body := attentionBody s l }
  | _ => refuse s .range []

/-- SET ATTENTION MASK (R163). -/
def setAttentionMaskAnswer (l : Link) (body : List Byte) (s : State) : Answer :=
  match body with
  | [m] =>
    { state := s.setPort l { s.port l with mask := causesOf m }
      status := .ok
      body := putCauses (causesOf m) ++ putCauses (s.port l).causes }
  | _ => refuse s .range []

/-- The nine bytes of READ LINK STATUS: link, rights, bound sector, hold limit, error counters (R164, R167). R164 names the
five counters as one item; their order is that of R156 (DEDUCED, notes/assumptions/7.md). -/
def linkStatusBody (s : State) (l : Link) : List Byte :=
  let e := (s.port l).errors
  put8 (linkNo l) ++ putRights (s.rights l) ++ putSector? (s.boundSector l) ++ put8 s.policy.hold ++ put8 e.framing ++
    put8 e.badLength ++ put8 e.badChecksum ++ put8 e.unknownKind ++ put8 e.holdTimeout

/-- READ LINK STATUS (R164). -/
def readLinkStatusAnswer (l : Link) (body : List Byte) (s : State) : Answer :=
  match body with
  | [] =>
    let p := s.port l
    { state := s.setPort l { p with errors := Errors.zero, causes := { p.causes with linkFault := false } }
      status := .ok
      body := linkStatusBody s l }
  | _ => refuse s .range []

/-! ### Taken on a link, and the rows -/

/-- SET LINK RIGHTS taken on a link. -/
def takeSetLinkRights (l : Link) (tag : Byte) (body : List Byte) (s : State) : State :=
  s.serve .setLinkRights l tag (setLinkRightsAnswer body)

/-- READ ATTENTION taken on a link. -/
def takeReadAttention (l : Link) (tag : Byte) (body : List Byte) (s : State) : State :=
  s.serve .readAttention l tag (readAttentionAnswer l body)

/-- SET ATTENTION MASK taken on a link. -/
def takeSetAttentionMask (l : Link) (tag : Byte) (body : List Byte) (s : State) : State :=
  s.serve .setAttentionMask l tag (setAttentionMaskAnswer l body)

/-- READ LINK STATUS taken on a link. -/
def takeReadLinkStatus (l : Link) (tag : Byte) (body : List Byte) (s : State) : State :=
  s.serve .readLinkStatus l tag (readLinkStatusAnswer l body)

/-- FETCH (R158). -/
def execFetch (l : Link) (tag : Byte) (body : List Byte) (s : State) : Host.Outcome State Fault Refusal :=
  .next (takeFetch l tag body s)

/-- SET_LINK_RIGHTS (R160). -/
def execSetLinkRights (l : Link) (tag : Byte) (body : List Byte) (s : State) : Host.Outcome State Fault Refusal :=
  .next (takeSetLinkRights l tag body s)

/-- READ_ATTENTION (R162). -/
def execReadAttention (l : Link) (tag : Byte) (body : List Byte) (s : State) : Host.Outcome State Fault Refusal :=
  .next (takeReadAttention l tag body s)

/-- SET_ATTENTION_MASK (R163). -/
def execSetAttentionMask (l : Link) (tag : Byte) (body : List Byte) (s : State) : Host.Outcome State Fault Refusal :=
  .next (takeSetAttentionMask l tag body s)

/-- READ_LINK_STATUS (R164). -/
def execReadLinkStatus (l : Link) (tag : Byte) (body : List Byte) (s : State) : Host.Outcome State Fault Refusal :=
  .next (takeReadLinkStatus l tag body s)

end Sys2Proof.Machine
end

