-- ==== Sys2Proof/Machine/Policy.lean ====
section
/-! DEFINITION. Site policy (chapter 1): SET POLICY, READ POLICY, SET BAR MASK, RESTART SCHEDULING, and the power-low
line. -/

namespace Sys2Proof.Machine

/-! ### SET POLICY (R12 to R14) -/

/-- An item of SET POLICY, its value read at the width of its parameter: the high byte of a one-byte parameter's value
is ignored (R166). -/
inductive PolicyItem where
  | n (v : Nat)
  | d (v : Nat)
  | window (o w : Nat)
  | g (v : Nat)
  | umin (v : Nat)
  | z (v : Nat)
  | e (v : Nat)
  | bn (v : Nat)
  | bl (v : Nat)
  | m (v : Nat)
  | hlim (v : Nat)
  | alim (v : Nat)
  | hold (v : Nat)
  | adjacency (v : Adjacency)
  deriving DecidableEq, Repr

/-- The item of an identifier and a value's low and high bytes; none when the identifier names no parameter (R166). -/
def policyItem (ident lo hi : Byte) : Option PolicyItem :=
  match ident.toNat with
  | 1 => some (.n lo.toNat)
  | 2 => some (.d lo.toNat)
  | 3 => some (.window lo.toNat hi.toNat)
  | 4 => some (.g lo.toNat)
  | 5 => some (.umin lo.toNat)
  | 6 => some (.z (field16 lo hi))
  | 7 => some (.e (field16 lo hi))
  | 8 => some (.bn lo.toNat)
  | 9 => some (.bl lo.toNat)
  | 10 => some (.m lo.toNat)
  | 11 => some (.hlim lo.toNat)
  | 12 => some (.alim lo.toNat)
  | 13 => some (.hold lo.toNat)
  | 14 => some (.adjacency (adjacencyOf lo))
  | _ => none

/-- Whether a sector is bound to a link. -/
def isBound (s : State) (k : SectorId) : Bool := (s.sector k).state.link?.isSome

/-- Whether any record has a sector as its home, ACTIVE or MOVING (R13). -/
def isHome (s : State) (k : SectorId) : Bool :=
  allRecords.any fun i =>
    match s.occupant i with
    | some o => match o.attachment.place? with
      | some (k', _) => decide (k' = k)
      | none => false
    | none => false

/-- The sectors an N item would disable, `n` being its clamped value and `old` the N in force (R13). -/
def sectorsLost (n old : Nat) : List SectorId :=
  allSectors.filter fun k => decide (n ≤ sectorNo k ∧ sectorNo k < old)

/-- The check of an item against the state as it stands before any item is applied; none when it passes (R12, R13). -/
def checkItem (s : State) : PolicyItem → Option Status
  | .window o w => if o < w ∧ w ≤ 15 then none else some .range
  | .n v =>
    if (sectorsLost (clampTo 1 3 v) s.policy.n).any fun k => isBound s k || isHome s k then some .inUse else none
  | .d _ | .g _ | .umin _ | .z _ | .e _ | .bn _ | .bl _ | .m _ | .hlim _ | .alim _ | .hold _ | .adjacency _ => none

/-- A sector's state when N becomes `n`: DISABLED at or above it, and UNBOUND below it if it was DISABLED (R13). -/
def sectorForN (n : Nat) (k : SectorId) (v : Sector) : Sector :=
  if n ≤ sectorNo k then { v with state := .disabled }
  else if v.state = .disabled then
    { v with state := .unbound, map := [], ring := [], dlHead := none, ulHead := none }
  else v

/-- N is set: the sector states follow at once, and SECTOR STATE is raised if any of them changed (R13, R55). -/
def State.setN (s : State) (n : Nat) : State :=
  let t := { s with
    policy := { s.policy with n := n }
    sectors := PerSector.of fun k => sectorForN n k (s.sector k) }
  if allSectors.any fun k => decide ((t.sector k).state ≠ (s.sector k).state) then t.raiseSectorState else t

/-- The state with a policy. -/
def State.setPolicy (s : State) (p : Policy) : State := { s with policy := p }

/-- What applying an item gives: the state, the two bytes of the value stored, and whether it was clamped (R12). -/
structure Applied where
  state : State
  stored : List Byte
  clamped : Bool

/-- A stored value of a parameter that was clamped from `v`. -/
def appliedValue (s : State) (stored v : Nat) : Applied where
  state := s
  stored := put16 stored
  clamped := decide (stored ≠ v)

/-- An item is applied (R12, with the ranges of R8). -/
def applyItem (s : State) : PolicyItem → Applied
  | .n v => appliedValue (s.setN (clampTo 1 3 v)) (clampTo 1 3 v) v
  | .d v => appliedValue (s.setPolicy { s.policy with d := clampTo 4 12 v }) (clampTo 4 12 v) v
  | .window o w =>
    { state := s.setPolicy { s.policy with pendingWindow := some { o := o, w := w } }
      stored := put8 o ++ put8 w
      clamped := false }
  | .g v => appliedValue (s.setPolicy { s.policy with g := clampTo 0 20 v }) (clampTo 0 20 v) v
  | .umin v => appliedValue (s.setPolicy { s.policy with umin := clampTo 1 20 v }) (clampTo 1 20 v) v
  | .z v => appliedValue (s.setPolicy { s.policy with z := clampTo 0 1023 v }) (clampTo 0 1023 v) v
  | .e v => appliedValue (s.setPolicy { s.policy with e := clampTo 0 1023 v }) (clampTo 0 1023 v) v
  | .bn v => appliedValue (s.setPolicy { s.policy with bn := clampTo 0 216 v }) (clampTo 0 216 v) v
  | .bl v => appliedValue (s.setPolicy { s.policy with bl := clampTo 0 216 v }) (clampTo 0 216 v) v
  | .m v => appliedValue (s.setPolicy { s.policy with m := clampTo 1 15 v }) (clampTo 1 15 v) v
  | .hlim v => appliedValue (s.setPolicy { s.policy with hlim := clampTo 1 63 v }) (clampTo 1 63 v) v
  | .alim v => appliedValue (s.setPolicy { s.policy with alim := clampTo 1 255 v }) (clampTo 1 255 v) v
  | .hold v => appliedValue (s.setPolicy { s.policy with hold := clampTo 1 16 v }) (clampTo 1 16 v) v
  | .adjacency v =>
    { state := s.setPolicy { s.policy with adjacency := v }
      stored := putAdjacency v ++ put8 0
      clamped := false }

/-- The position and status of the first refused item of a list (R12). -/
def firstRefused (s : State) : Nat → List (Byte × Byte × Byte) → Option (Nat × Status)
  | _, [] => none
  | pos, (i, lo, hi) :: rest =>
    match policyItem i lo hi with
    | none => some (pos, .range)
    | some item => match checkItem s item with
      | some st => some (pos, st)
      | none => firstRefused s (pos + 1) rest

/-- All items are applied in list order (R12). An identifier that names no parameter does not pass the check. -/
def applyItems : State → List (Byte × Byte × Byte) → Applied
  | s, [] => { state := s, stored := [], clamped := false }
  | s, (i, lo, hi) :: rest =>
    match policyItem i lo hi with
    | none => applyItems s rest
    | some item =>
      let a := applyItem s item
      let b := applyItems a.state rest
      { state := b.state, stored := a.stored ++ b.stored, clamped := a.clamped || b.clamped }

/-- SET POLICY (R12, R166). -/
def setPolicyAnswer (body : List Byte) (s : State) : Answer :=
  match policyTriples body with
  | none => refuse s .range (put8 255)
  | some items =>
    match firstRefused s 0 items with
    | some (pos, st) => refuse s st (put8 pos)
    | none =>
      let a := applyItems s items
      { state := a.state, status := if a.clamped then .okClamped else .ok, body := a.stored }

/-! ### READ POLICY (R16) -/

/-- Part 0: the parameters in the order of R8's table, the adjacency flags, whether a pending pair is held, the pair
(0 when none), and the power-low level (R16, R167; DEDUCED order, notes/assumptions/7.md). R167 gives a line's level neither
width nor value: it is sent as a flag, one byte, 1 for asserted (DEDUCED, notes/assumptions/7.md). -/
def policyPart0 (s : State) : List Byte :=
  let p := s.policy
  let held : Window := p.pendingWindow.getD { o := 0, w := 0 }
  put8 p.n ++ put8 p.d ++ put8 p.window.o ++ put8 p.window.w ++ put8 p.g ++ put8 p.umin ++ put16 p.z ++ put16 p.e ++
    put8 p.bn ++ put8 p.bl ++ put8 p.m ++ put8 p.hlim ++ put8 p.alim ++ put8 p.hold ++ putAdjacency p.adjacency ++
    putFlag p.pendingWindow.isSome ++ put8 held.o ++ put8 held.w ++ putFlag s.powerLow

/-- READ POLICY (R16). -/
def readPolicyAnswer (body : List Byte) (s : State) : Answer :=
  match body with
  | [part] =>
    match part.toNat with
    | 0 => { state := s, status := .ok, body := policyPart0 s }
    | 1 =>
      { state := s
        status := .ok
        body := allSectors.flatMap fun k => putMask (s.policy.masks.get k) }
    | 2 =>
      { state := s
        status := .ok
        body := (allLinks.flatMap fun l => putRights (s.rights l)) ++
          allSectors.flatMap fun k => putLink? (s.policy.pins.get k) }
    | _ => refuse s .range []
  | _ => refuse s .range []

/-! ### SET BAR MASK (R15) -/

/-- SET BAR MASK (R15). -/
def setBarMaskAnswer (body : List Byte) (s : State) : Answer :=
  match body with
  | k :: mask =>
    if mask.length = 12 then
      match sectorOf k.toNat with
      | some k =>
        { state := s.setPolicy { s.policy with masks := s.policy.masks.set k (maskOfBytes mask) }
          status := .ok
          body := [] }
      | none => refuse s .range []
    else refuse s .range []
  | [] => refuse s .range []

/-! ### RESTART SCHEDULING (R17, R53, R71, R109, R135, R150, R165) -/

/-- A sector after a restart: its map, ring and heads emptied; a bound sector SILENT with its count at M and its
batch-seen flag clear (R71). -/
def Sector.restart (m : Nat) (v : Sector) : Sector :=
  let bare : Sector := { v with map := [], ring := [], dlHead := none, ulHead := none }
  match v.state with
  | .disabled => bare
  | .unbound => bare
  | .silent l => { bare with state := .silent l, missed := m, batchSeen := false }
  | .present l => { bare with state := .silent l, missed := m, batchSeen := false }

/-- The restart's effects on every block, together (R17). -/
def State.restart (s : State) : State :=
  let t : State := { s with
    table := Vector.ofFn fun i => { generation := (s.record i).generation, occupant := none }
    sectors := PerSector.of fun k => (s.sector k).restart s.policy.m
    queues := { s0 := [], s1 := [], s2 := [] }
    builder := none
    live := { s.live with plan := .empty false }
    next := none }
  let t := t.mapPorts fun _ p => p.withCauses { p.causes with planReady := false, handover := false }
  if allSectors.any fun k => (s.sector k).state.isPresent then t.raiseSectorState else t

/-- RESTART SCHEDULING (R17). -/
def restartSchedulingAnswer (body : List Byte) (s : State) : Answer :=
  match body with
  | [] => { state := s.restart, status := .ok, body := [] }
  | _ => refuse s .range []

/-! ### Taken on a link, and the rows -/

/-- SET POLICY taken on a link. -/
def takeSetPolicy (l : Link) (tag : Byte) (body : List Byte) (s : State) : State :=
  s.serve .setPolicy l tag (setPolicyAnswer body)

/-- READ POLICY taken on a link. -/
def takeReadPolicy (l : Link) (tag : Byte) (body : List Byte) (s : State) : State :=
  s.serve .readPolicy l tag (readPolicyAnswer body)

/-- SET BAR MASK taken on a link. -/
def takeSetBarMask (l : Link) (tag : Byte) (body : List Byte) (s : State) : State :=
  s.serve .setBarMask l tag (setBarMaskAnswer body)

/-- RESTART SCHEDULING taken on a link. -/
def takeRestartScheduling (l : Link) (tag : Byte) (body : List Byte) (s : State) : State :=
  s.serve .restartScheduling l tag (restartSchedulingAnswer body)

/-- SET_POLICY (R12). -/
def execSetPolicy (l : Link) (tag : Byte) (body : List Byte) (s : State) : Host.Outcome State Fault Refusal :=
  .next (takeSetPolicy l tag body s)

/-- READ_POLICY (R16). -/
def execReadPolicy (l : Link) (tag : Byte) (body : List Byte) (s : State) : Host.Outcome State Fault Refusal :=
  .next (takeReadPolicy l tag body s)

/-- SET_BAR_MASK (R15). -/
def execSetBarMask (l : Link) (tag : Byte) (body : List Byte) (s : State) : Host.Outcome State Fault Refusal :=
  .next (takeSetBarMask l tag body s)

/-- RESTART_SCHEDULING (R17). -/
def execRestartScheduling (l : Link) (tag : Byte) (body : List Byte) (s : State) : Host.Outcome State Fault Refusal :=
  .next (takeRestartScheduling l tag body s)

/-- POWER_LOW_LINE_CHANGE (R7): the power-low input takes a level; nothing else happens until a build start samples it
or READ POLICY reports it. -/
def execPowerLowLineChange (asserted : Bool) (s : State) : Host.Outcome State Fault Refusal :=
  .next { s with powerLow := asserted }

end Sys2Proof.Machine
end

