-- ==== Sys2Proof/Config.lean ====
section
/-! DEFINITION. What the manual leaves open: the one free value of this model. -/

namespace Sys2Proof

/-- FREE VALUE. The state byte of the RANGE answer to a BIND SECTOR naming a sector above 2, as a function of the
sector byte carried. R56 says that the response to every case carries the sector number and its state after the
request, and no rule states a state for a sector that does not exist. Nothing in Lean can evaluate it
(DESIGN CHOICE, safe: notes/assumptions/1.md). -/
opaque Config.noSectorState : Byte → Byte

end Sys2Proof
end

