-- ==== Sys2Proof/Machine/Moves.lean ====
section
/-! DEFINITION. Moving subscribers between sectors (chapter 9): MOVE, READ NOTICE, CLAIM, CANCEL MOVE and the countdown
of the moves at a frame start. -/

namespace Sys2Proof.Machine

/-- The greatest handle (00_scope). -/
def maxHandle : Nat := 127

/-- Whether a handle byte names a handle, 1 to 127. -/
def handleOk (h : Nat) : Bool := decide (1 ≤ h ∧ h ≤ maxHandle)

/-- The notices a queue holds at most (R137). -/
def maxNotices : Nat := 8

/-! ### MOVE (R138, R139) -/

/-- The notice of a move (R137). -/
def noticeOf (s : State) (k : SectorId) (i : RecIdx) (o : Occupant) : Notice where
  id := o.id
  index := i
  generation := (s.record i).generation
  source := k
  ta := o.ta
  cls := o.cls
  terms := o.terms
  frames := s.policy.hlim

/-- A MOVE that has passed its checks (R139). -/
def moveTaken (s : State) (k t : SectorId) (handle : Nat) (i : RecIdx) (o : Occupant) : Answer :=
  let n := noticeOf s k i o
  let moved := s.setOccupant i
    (some { o with attachment := .moving k handle t s.policy.hlim, lapse := none })
  let queued := moved.setQueue t (moved.queue t ++ [n])
  { state := queued
    status := .ok
    body := put8 i.val ++ put8 (s.record i).generation ++ put8 (sectorNo t) ++ put8 s.policy.hlim ++
      put8 (queued.queue t).length }

/-- The later checks of a MOVE, from the record's state on (R138, steps 3 to 7). -/
def moveChecked (s : State) (k t : SectorId) (handle : Nat) (i : RecIdx) (o : Occupant) : Answer :=
  match o.attachment.move? with
  | some (t', n) => refuse s .notActive (put8 (sectorNo t') ++ put8 n)
  | none =>
    if o.suspended then refuse s .suspended []
    else if t = k ∨ (s.sector t).state = .disabled then refuse s .range []
    else if (s.sector t).state.isPresent then
      if maxNotices ≤ (s.queue t).length then refuse s .noticeFull [] else moveTaken s k t handle i o
    else refuse s .targetSilent []

/-- MOVE from the link bound to sector `k` (R138, R139). -/
def moveAnswer (body : List Byte) (k : SectorId) (s : State) : Answer :=
  match body with
  | [handle, target] =>
    match sectorOf target.toNat with
    | none => refuse s .range []
    | some t =>
      if handleOk handle.toNat then
        match s.lookup k handle.toNat with
        | none => refuse s .noHandle []
        | some (i, o) => moveChecked s k t handle.toNat i o
      else refuse s .range []
  | _ => refuse s .range []

/-- MOVE taken on a link. -/
def takeMove (l : Link) (tag : Byte) (body : List Byte) (s : State) : State :=
  s.serveBound .move l tag (moveAnswer body)

/-- MOVE (R139). -/
def execMove (l : Link) (tag : Byte) (body : List Byte) (s : State) : Host.Outcome State Fault Refusal :=
  .next (takeMove l tag body s)

/-! ### READ NOTICE (R141) -/

/-- The fifteen bytes of a notice with the number left (R167). -/
def putNotice (n : Notice) (left : Nat) : List Byte :=
  put24 n.id ++ put8 n.index.val ++ put8 n.generation ++ put8 (sectorNo n.source) ++ put16 n.ta ++ put8 n.cls ++
    putTerms n.terms ++ put8 n.frames ++ put8 left

/-- READ NOTICE from the link bound to sector `k` (R141). -/
def readNoticeAnswer (body : List Byte) (k : SectorId) (s : State) : Answer :=
  match body with
  | [] =>
    match s.queue k with
    | [] => refuse s .queueEmpty []
    | n :: rest => { state := s.setQueue k rest, status := .ok, body := putNotice n rest.length }
  | _ => refuse s .range []

/-- READ NOTICE taken on a link. -/
def takeReadNotice (l : Link) (tag : Byte) (body : List Byte) (s : State) : State :=
  s.serveBound .readNotice l tag (readNoticeAnswer body)

/-- READ_NOTICE (R141). -/
def execReadNotice (l : Link) (tag : Byte) (body : List Byte) (s : State) : Host.Outcome State Fault Refusal :=
  .next (takeReadNotice l tag body s)

/-! ### CLAIM (R143, R144) -/

/-- The grants a claim marks void: those for the record in its source's list (R144). -/
def sourceGrant (k : SectorId) (i : RecIdx) (generation : Nat) (k' : SectorId) (g : Grant) : Bool :=
  decide (k' = k) && grantFor i generation g

/-- A CLAIM that has passed its checks: the record leaves its source `k` and joins the target `t` (R144). -/
def claimTaken (s : State) (k t : SectorId) (oldHandle newHandle : Nat) (i : RecIdx) (o : Occupant) : Answer :=
  let gen := (s.record i).generation
  let left := s.setSector k ((s.sector k).leave oldHandle i)
  let joined := left.setSector t ((left.sector t).join newHandle i gen)
  let moved := joined.setOccupant i (some { o with attachment := .active t newHandle })
  { state := (moved.withdraw t i).voidWhere (sourceGrant k i gen)
    status := .ok
    body := put8 i.val ++ put8 gen ++ put8 (sectorNo k) }

/-- The entry of a handle in a sector's map, if the handle is in use. -/
def State.handleEntry (s : State) (k : SectorId) (handle : Nat) : Option MapEntry :=
  (s.sector k).map.find? fun e => e.handle = handle

/-- The checks of a CLAIM on the record found (R143, steps 3 to 5). -/
def claimChecked (s : State) (t : SectorId) (handle : Nat) (i : RecIdx) (o : Occupant) : Answer :=
  match o.attachment with
  | .unbound => refuse s .notMoving []
  | .active k h =>
    if o.lapse = some t then
      refuse s .tooLate (put8 i.val ++ put8 (s.record i).generation ++ put8 (sectorNo k) ++ put8 h)
    else refuse s .notMoving []
  | .moving k h t' _ =>
    if t' = t then
      match s.handleEntry t handle with
      | some e => refuse s .handleInUse (put8 e.index.val)
      | none => claimTaken s k t h handle i o
    else refuse s .notMoving []

/-- CLAIM from the link bound to sector `t` (R143, R144). -/
def claimAnswer (body : List Byte) (t : SectorId) (s : State) : Answer :=
  match body with
  | [i0, i1, i2, handle] =>
    if handleOk handle.toNat then
      match s.findById (field24 i0 i1 i2) with
      | none => refuse s .notMoving []
      | some (i, o) => claimChecked s t handle.toNat i o
    else refuse s .range []
  | _ => refuse s .range []

/-- CLAIM taken on a link. -/
def takeClaim (l : Link) (tag : Byte) (body : List Byte) (s : State) : State :=
  s.serveBound .claim l tag (claimAnswer body)

/-- CLAIM (R144). -/
def execClaim (l : Link) (tag : Byte) (body : List Byte) (s : State) : Host.Outcome State Fault Refusal :=
  .next (takeClaim l tag body s)

/-! ### CANCEL MOVE (R146) -/

/-- CANCEL MOVE from the link bound to sector `k` (R146). -/
def cancelMoveAnswer (body : List Byte) (k : SectorId) (s : State) : Answer :=
  match body with
  | [handle] =>
    if handleOk handle.toNat then
      match s.lookup k handle.toNat with
      | none => refuse s .noHandle []
      | some (i, o) =>
        match o.attachment.move? with
        | none => refuse s .notMoving []
        | some (t, _) =>
          { state := s.cancelMoveOf i
            status := .ok
            body := put8 i.val ++ put8 (s.record i).generation ++ put8 (sectorNo t) ++
              putFlag (noticeQueued i (s.queue t)) }
    else refuse s .range []
  | _ => refuse s .range []

/-- CANCEL MOVE taken on a link. -/
def takeCancelMove (l : Link) (tag : Byte) (body : List Byte) (s : State) : State :=
  s.serveBound .cancelMove l tag (cancelMoveAnswer body)

/-- CANCEL_MOVE (R146). -/
def execCancelMove (l : Link) (tag : Byte) (body : List Byte) (s : State) : Host.Outcome State Fault Refusal :=
  .next (takeCancelMove l tag body s)

/-! ### The countdown at a frame start (R147) -/

/-- Whether a record's move expires at this frame start: its frames remaining reach 0 (R147). -/
def expiresNow (s : State) (i : RecIdx) : Bool :=
  match s.occupant i with
  | some o => match o.attachment.move? with
    | some (_, n) => decide (n ≤ 1)
    | none => false
  | none => false

/-- A record after a frame start: one frame less, or ACTIVE in its source with its lapse mark set (R147). -/
def Occupant.countdown (o : Occupant) : Occupant :=
  match o.attachment with
  | .unbound => o
  | .active _ _ => o
  | .moving k h t n =>
    if n ≤ 1 then { o with attachment := .active k h, lapse := some t }
    else { o with attachment := .moving k h t (n - 1) }

/-- A queue after a frame start: the notices of expired moves withdrawn, the others one frame less (R147). -/
def countdownQueue (s : State) (q : List Notice) : List Notice :=
  (q.filter fun n => !expiresNow s n.index).map fun n => { n with frames := n.frames - 1 }

/-- The Move Unit's part of a frame start (R147). -/
def State.countdown (s : State) : State :=
  let t := s.mapOccupants fun _ o => o.countdown
  allSectors.foldl (fun t k => t.setQueue k (countdownQueue s (s.queue k))) t

end Sys2Proof.Machine
end

