-- ==== Sys2Proof/Machine/Subscribers.lean ====
section
/-! DEFINITION. Subscriber records (chapter 3): ADMIT, SET TERMS, SUSPEND, RESUME, REMOVE and READ SUBSCRIBER. -/

namespace Sys2Proof.Machine

/-! ### ADMIT (R44, R45) -/

/-- The occupant ADMIT makes (R45). -/
def freshOccupant (id : Nat) (terms : Terms) : Occupant where
  suspended := false
  id := id
  terms := terms
  attachment := .unbound
  demandDL := 0
  demandUL := 0
  cls := 0
  ta := 0
  creditDL := 0
  creditUL := 0
  age := 0
  lapse := none

/-- A generation raised by 1, wrapping from 255 to 0 (R37). -/
def nextGeneration (g : Nat) : Nat := (g + 1) % 256

/-- The status of an answer that clamped a value or did not (R153). -/
def clampStatus (clamped : Bool) : Status := if clamped then .okClamped else .ok

/-- ADMIT (R43 to R45). -/
def admitAnswer (body : List Byte) (s : State) : Answer :=
  match body with
  | [i0, i1, i2, w, rd, ru, cap] =>
    let id := field24 i0 i1 i2
    if id = 0 then refuse s .range []
    else match s.findById id with
      | some (i, _) => refuse s .duplicate (put8 i.val ++ put8 (s.record i).generation)
      | none => match s.lowestFree with
        | none => refuse s .tableFull []
        | some i =>
          let gen := nextGeneration (s.record i).generation
          let terms := clampTerms w rd ru cap
          { state := s.setRecord i { generation := gen, occupant := some (freshOccupant id terms) }
            status := clampStatus (termsClamped w rd ru cap)
            body := put8 i.val ++ put8 gen ++ putTerms terms }
  | _ => refuse s .range []

/-! ### The requests that name a record in use -/

/-- The index and generation of a record, which many answers carry. -/
def putRecord (s : State) (i : RecIdx) : List Byte := put8 i.val ++ put8 (s.record i).generation

/-- A request whose body is an id acts on the record that holds it (R43). -/
def withSubscriber (s : State) (body : List Byte) (act : RecIdx → Occupant → Answer) : Answer :=
  match body with
  | [i0, i1, i2] =>
    match s.findById (field24 i0 i1 i2) with
    | none => refuse s .noSubscriber []
    | some (i, o) => act i o
  | _ => refuse s .range []

/-- The occupant after SET TERMS: the new terms, and each credit at most 4 times the new weight (R46). -/
def Occupant.setTerms (o : Occupant) (t : Terms) : Occupant :=
  { o with terms := t, creditDL := min o.creditDL (4 * t.weight), creditUL := min o.creditUL (4 * t.weight) }

/-- SET TERMS (R46). -/
def setTermsAnswer (body : List Byte) (s : State) : Answer :=
  match body with
  | [i0, i1, i2, w, rd, ru, cap] =>
    match s.findById (field24 i0 i1 i2) with
    | none => refuse s .noSubscriber []
    | some (i, o) =>
      let terms := clampTerms w rd ru cap
      { state := s.setOccupant i (some (o.setTerms terms))
        status := clampStatus (termsClamped w rd ru cap)
        body := putRecord s i ++ putTerms terms }
  | _ => refuse s .range []

/-- SUSPEND (R48). -/
def suspendAnswer (body : List Byte) (s : State) : Answer :=
  withSubscriber s body fun i o =>
    { state := (s.setOccupant i (some { o with suspended := true })).voidRecord i
      status := .ok
      body := putRecord s i }

/-- RESUME (R49). -/
def resumeAnswer (body : List Byte) (s : State) : Answer :=
  withSubscriber s body fun i o =>
    { state := s.setOccupant i (some { o with suspended := false })
      status := .ok
      body := putRecord s i }

/-- A record leaves the map and the ring of its home sector, if it is ACTIVE or MOVING (R50, R64). -/
def State.leaveHome (s : State) (i : RecIdx) : State :=
  match s.occupant i with
  | some o => match o.attachment.place? with
    | some (k, h) => s.setSector k ((s.sector k).leave h i)
    | none => s
  | none => s

/-- REMOVE (R50). -/
def removeAnswer (body : List Byte) (s : State) : Answer :=
  withSubscriber s body fun i _ =>
    { state := (((s.cancelMoveOf i).leaveHome i).voidRecord i).setOccupant i none
      status := .ok
      body := putRecord s i ++ put8 (recordStateNo (s.record i)) }

/-- The twenty-five bytes of READ SUBSCRIBER, an absent field as 0 (R52, R35, R167). -/
def subscriberBody (s : State) (i : RecIdx) (o : Occupant) : List Byte :=
  let place := match o.attachment.place? with
    | some (k, h) => put8 (sectorNo k) ++ put8 h
    | none => put8 0 ++ put8 0
  let moveFields := match o.attachment.move? with
    | some (t, n) => put8 (sectorNo t) ++ put8 n
    | none => put8 0 ++ put8 0
  putRecord s i ++ put8 (recordStateNo (s.record i)) ++ putFlag o.suspended ++ put24 o.id ++ putTerms o.terms ++
    place ++ moveFields ++ put16 o.demandDL ++ put16 o.demandUL ++ put8 o.cls ++ put16 o.ta ++ put8 o.creditDL ++
    put8 o.creditUL ++ put8 o.age

/-- READ SUBSCRIBER (R52). -/
def readSubscriberAnswer (body : List Byte) (s : State) : Answer :=
  withSubscriber s body fun i o => { state := s, status := .ok, body := subscriberBody s i o }

/-! ### Taken on a link, and the rows -/

/-- ADMIT taken on a link. -/
def takeAdmit (l : Link) (tag : Byte) (body : List Byte) (s : State) : State :=
  s.serve .admitSubscriber l tag (admitAnswer body)

/-- SET TERMS taken on a link. -/
def takeSetTerms (l : Link) (tag : Byte) (body : List Byte) (s : State) : State :=
  s.serve .setTerms l tag (setTermsAnswer body)

/-- SUSPEND taken on a link. -/
def takeSuspend (l : Link) (tag : Byte) (body : List Byte) (s : State) : State :=
  s.serve .suspend l tag (suspendAnswer body)

/-- RESUME taken on a link. -/
def takeResume (l : Link) (tag : Byte) (body : List Byte) (s : State) : State :=
  s.serve .resume l tag (resumeAnswer body)

/-- REMOVE taken on a link. -/
def takeRemove (l : Link) (tag : Byte) (body : List Byte) (s : State) : State :=
  s.serve .remove l tag (removeAnswer body)

/-- READ SUBSCRIBER taken on a link. -/
def takeReadSubscriber (l : Link) (tag : Byte) (body : List Byte) (s : State) : State :=
  s.serve .readSubscriber l tag (readSubscriberAnswer body)

/-- ADMIT (R45). -/
def execAdmit (l : Link) (tag : Byte) (body : List Byte) (s : State) : Host.Outcome State Fault Refusal :=
  .next (takeAdmit l tag body s)

/-- SET_TERMS (R46). -/
def execSetTerms (l : Link) (tag : Byte) (body : List Byte) (s : State) : Host.Outcome State Fault Refusal :=
  .next (takeSetTerms l tag body s)

/-- SUSPEND (R48). -/
def execSuspend (l : Link) (tag : Byte) (body : List Byte) (s : State) : Host.Outcome State Fault Refusal :=
  .next (takeSuspend l tag body s)

/-- RESUME (R49). -/
def execResume (l : Link) (tag : Byte) (body : List Byte) (s : State) : Host.Outcome State Fault Refusal :=
  .next (takeResume l tag body s)

/-- REMOVE (R50). -/
def execRemove (l : Link) (tag : Byte) (body : List Byte) (s : State) : Host.Outcome State Fault Refusal :=
  .next (takeRemove l tag body s)

/-- READ_SUBSCRIBER (R52). -/
def execReadSubscriber (l : Link) (tag : Byte) (body : List Byte) (s : State) : Host.Outcome State Fault Refusal :=
  .next (takeReadSubscriber l tag body s)

end Sys2Proof.Machine
end

