-- ==== Sys2Proof/Machine/Sectors.lean ====
section
/-! DEFINITION. Sectors, bindings and handle maps (chapter 4): BIND SECTOR, RELEASE SECTOR, PIN SECTOR, ATTACH, DETACH
and READ SECTORS. -/

namespace Sys2Proof.Machine

/-! ### BIND SECTOR (R56) -/

/-- An answer to BIND SECTOR: the values its case names, then the sector number and the sector's state after the
request, which every case carries (R56, R167; DEDUCED order, notes/assumptions/7.md). -/
def bindAnswer (s : State) (k : SectorId) (status : Status) (extra : List Byte) : Answer where
  state := s
  status := status
  body := extra ++ put8 (sectorNo k) ++ put8 (sectorStateNo (s.sector k).state)

/-- The sector bound to a link (R56, case 7). -/
def State.bindTo (s : State) (k : SectorId) (l : Link) : State :=
  (s.setSector k { s.sector k with state := .silent l, missed := s.policy.m, batchSeen := false }).raiseSectorState

/-- The cases 2 to 7 of BIND SECTOR (R56). -/
def bindCases (l : Link) (k : SectorId) (s : State) : Answer :=
  if (s.sector k).state.link? = some l then bindAnswer s k .ok []
  else if (s.sector k).state = .disabled then bindAnswer s k .sectorDisabled []
  else if (s.policy.pins.get k).any fun p => decide (p ≠ l) then bindAnswer s k .sectorPinned []
  else match (s.sector k).state.link? with
    | some holder => bindAnswer s k .sectorTaken (put8 (linkNo holder))
    | none => match s.boundSector l with
      | some held => bindAnswer s k .inUse (put8 (sectorNo held))
      | none => bindAnswer (s.bindTo k l) k .ok []

/-- BIND SECTOR (R56). The state of a sector above 2 is a free value. -/
def bindSectorAnswer (l : Link) (body : List Byte) (s : State) : Answer :=
  match body with
  | [k] =>
    match sectorOf k.toNat with
    | none => refuse s .range [k, Config.noSectorState k]
    | some k => bindCases l k s
  | _ => refuse s .range []

/-! ### RELEASE SECTOR (R58) -/

/-- RELEASE SECTOR from the link bound to sector `k` (R58, R59). -/
def releaseSectorAnswer (body : List Byte) (k : SectorId) (s : State) : Answer :=
  match body with
  | [] => { state := s.releaseBinding k, status := .ok, body := put8 (sectorNo k) ++ put8 (s.movesTo k) }
  | _ => refuse s .range []

/-! ### PIN SECTOR (R60) -/

/-- Whether a pin ends a sector's binding: it names a link and the sector is bound to another. -/
def pinEnds (s : State) (k : SectorId) (pin : Option Link) : Bool :=
  match pin, (s.sector k).state.link? with
  | some p, some l => decide (p ≠ l)
  | _, _ => false

/-- PIN SECTOR (R60). -/
def pinSectorAnswer (body : List Byte) (s : State) : Answer :=
  match body with
  | [kb, lb] =>
    match sectorOf kb.toNat, fieldPin lb with
    | some k, some pin =>
      let t := { s with policy := { s.policy with pins := s.policy.pins.set k pin } }
      let ends := pinEnds s k pin
      { state := if ends then t.releaseBinding k else t
        status := .ok
        body := put8 (sectorNo k) ++ putLink? pin ++ putFlag ends }
    | _, _ => refuse s .range []
  | _ => refuse s .range []

/-! ### ATTACH (R62, R63) -/

/-- The occupant after ATTACH: bound, with demands, credits, class, TA and age 0 (R63). -/
def Occupant.attached (k : SectorId) (handle : Nat) (o : Occupant) : Occupant :=
  { o with attachment := .active k handle, demandDL := 0, demandUL := 0, cls := 0, ta := 0, creditDL := 0,
           creditUL := 0, age := 0 }

/-- An ATTACH that has passed its checks (R63). -/
def attachTaken (s : State) (k : SectorId) (handle : Nat) (i : RecIdx) (o : Occupant) : Answer where
  state := (s.setSector k ((s.sector k).join handle i (s.record i).generation)).setOccupant i
    (some (o.attached k handle))
  status := .ok
  body := putRecord s i

/-- ATTACH from the link bound to sector `k` (R62, R63). -/
def attachAnswer (body : List Byte) (k : SectorId) (s : State) : Answer :=
  match body with
  | [i0, i1, i2, handle] =>
    if handleOk handle.toNat then
      match s.findById (field24 i0 i1 i2) with
      | none => refuse s .noSubscriber []
      | some (i, o) =>
        match o.attachment.place? with
        | some (home, h) => refuse s .boundElsewhere (put8 (sectorNo home) ++ put8 h)
        | none =>
          match s.handleEntry k handle.toNat with
          | some e => refuse s .handleInUse (put8 e.index.val)
          | none => attachTaken s k handle.toNat i o
    else refuse s .range []
  | _ => refuse s .range []

/-! ### DETACH (R64) -/

/-- The occupant after DETACH: ADMITTED, with credits and demands 0 and the lapse mark cleared (R64, R147). -/
def Occupant.detached (o : Occupant) : Occupant :=
  { o with attachment := .unbound, demandDL := 0, demandUL := 0, creditDL := 0, creditUL := 0, lapse := none }

/-- A DETACH that has passed its checks (R64). -/
def detachTaken (s : State) (k : SectorId) (handle : Nat) (i : RecIdx) (o : Occupant) : Answer :=
  let settled := s.cancelMoveOf i
  let left := settled.setSector k ((settled.sector k).leave handle i)
  { state := (left.setOccupant i (some o.detached)).voidRecord i
    status := .ok
    body := putRecord s i ++ putFlag o.attachment.move?.isSome }

/-- DETACH from the link bound to sector `k` (R64). -/
def detachAnswer (body : List Byte) (k : SectorId) (s : State) : Answer :=
  match body with
  | [handle] =>
    if handleOk handle.toNat then
      match s.lookup k handle.toNat with
      | none => refuse s .noHandle []
      | some (i, o) => detachTaken s k handle.toNat i o
    else refuse s .range []
  | _ => refuse s .range []

/-! ### READ SECTORS (R69) -/

/-- The handle of the record at a head, 0 when the head is absent (R69). -/
def headHandle (s : State) (head : Option RecIdx) : Nat :=
  match head with
  | some i => match s.occupant i with
    | some o => match o.attachment.place? with
      | some (_, h) => h
      | none => 0
    | none => 0
  | none => 0

/-- The eight bytes of a sector (R69, R167). -/
def sectorBody (s : State) (k : SectorId) : List Byte :=
  let v := s.sector k
  put8 (sectorStateNo v.state) ++ putLink? v.state.link? ++ putLink? (s.policy.pins.get k) ++ put8 v.missed ++
    putFlag v.batchSeen ++ put8 v.ring.length ++ put8 (headHandle s v.dlHead) ++ put8 (headHandle s v.ulHead)

/-- READ SECTORS (R69). -/
def readSectorsAnswer (body : List Byte) (s : State) : Answer :=
  match body with
  | [] => { state := s, status := .ok, body := allSectors.flatMap (sectorBody s) }
  | _ => refuse s .range []

/-! ### Taken on a link, and the rows -/

/-- BIND SECTOR taken on a link. -/
def takeBindSector (l : Link) (tag : Byte) (body : List Byte) (s : State) : State :=
  s.serve .bindSector l tag (bindSectorAnswer l body)

/-- RELEASE SECTOR taken on a link. -/
def takeReleaseSector (l : Link) (tag : Byte) (body : List Byte) (s : State) : State :=
  s.serveBound .releaseSector l tag (releaseSectorAnswer body)

/-- PIN SECTOR taken on a link. -/
def takePinSector (l : Link) (tag : Byte) (body : List Byte) (s : State) : State :=
  s.serve .pinSector l tag (pinSectorAnswer body)

/-- ATTACH taken on a link. -/
def takeAttach (l : Link) (tag : Byte) (body : List Byte) (s : State) : State :=
  s.serveBound .attach l tag (attachAnswer body)

/-- DETACH taken on a link. -/
def takeDetach (l : Link) (tag : Byte) (body : List Byte) (s : State) : State :=
  s.serveBound .detach l tag (detachAnswer body)

/-- READ SECTORS taken on a link. -/
def takeReadSectors (l : Link) (tag : Byte) (body : List Byte) (s : State) : State :=
  s.serve .readSectors l tag (readSectorsAnswer body)

/-- BIND_SECTOR (R56). -/
def execBindSector (l : Link) (tag : Byte) (body : List Byte) (s : State) : Host.Outcome State Fault Refusal :=
  .next (takeBindSector l tag body s)

/-- RELEASE_SECTOR (R58). -/
def execReleaseSector (l : Link) (tag : Byte) (body : List Byte) (s : State) : Host.Outcome State Fault Refusal :=
  .next (takeReleaseSector l tag body s)

/-- PIN_SECTOR (R60). -/
def execPinSector (l : Link) (tag : Byte) (body : List Byte) (s : State) : Host.Outcome State Fault Refusal :=
  .next (takePinSector l tag body s)

/-- ATTACH (R63). -/
def execAttach (l : Link) (tag : Byte) (body : List Byte) (s : State) : Host.Outcome State Fault Refusal :=
  .next (takeAttach l tag body s)

/-- DETACH (R64). -/
def execDetach (l : Link) (tag : Byte) (body : List Byte) (s : State) : Host.Outcome State Fault Refusal :=
  .next (takeDetach l tag body s)

/-- READ_SECTORS (R69). -/
def execReadSectors (l : Link) (tag : Byte) (body : List Byte) (s : State) : Host.Outcome State Fault Refusal :=
  .next (takeReadSectors l tag body s)

end Sys2Proof.Machine
end

