-- ==== Sys2Proof/Machine/Demand.lean ====
section
/-! DEFINITION. Demand windows and sector presence (chapter 5): DEMAND BATCH, its entries, and presence evaluation. -/

namespace Sys2Proof.Machine

/-! ### Report entries (R76, R77) -/

/-- What an accepted entry makes of a record, E being the edge TA in force (R77). -/
def Occupant.report (e : Nat) (r : ReportEntry) (o : Occupant) : Occupant :=
  { o with demandDL := r.demandDL, demandUL := r.demandUL, cls := min r.cls 7, ta := min r.ta e, age := 0 }

/-- Whether an accepted entry is marked clamped (R77). -/
def ReportEntry.clamped (e : Nat) (r : ReportEntry) : Bool := decide (7 < r.cls) || decide (e < r.ta)

/-- The counts a batch's response carries (R78); `seen` is the number of entries processed. -/
structure BatchCount where
  seen : Nat
  accepted : Nat
  rejected : Nat
  clamped : Nat
  first : Option Nat
  deriving DecidableEq, Repr

/-- One entry is processed: rejected when its handle has no entry in the sector's map (R76), else accepted. -/
def reportOne (k : SectorId) (sc : State × BatchCount) (r : ReportEntry) : State × BatchCount :=
  let (s, c) := sc
  match s.lookup k r.handle with
  | some (i, o) =>
    (s.setOccupant i (some (o.report s.policy.e r)),
      { c with seen := c.seen + 1, accepted := c.accepted + 1
               clamped := if r.clamped s.policy.e then c.clamped + 1 else c.clamped })
  | none =>
    (s, { c with seen := c.seen + 1, rejected := c.rejected + 1
                 first := c.first.orElse fun _ => some c.seen })

/-- The status of a taken batch: PARTIAL if any entry was rejected (R78). -/
def BatchCount.status (c : BatchCount) : Status := if c.rejected = 0 then .ok else .part

/-- The four numbers of a taken batch's response (R78, R167). -/
def BatchCount.body (c : BatchCount) : List Byte :=
  put8 c.accepted ++ put8 c.rejected ++ put8 c.clamped ++ put8 (c.first.getD 255)

/-- DEMAND BATCH from the link bound to sector `k` (R74 to R78). -/
def demandBatchAnswer (body : List Byte) (k : SectorId) (s : State) : Answer :=
  match body with
  | [] => refuse s .range []
  | count :: rest =>
    match reportEntries rest with
    | none => refuse s .range []
    | some entries =>
      if 7 < count.toNat ∨ entries.length ≠ count.toNat then refuse s .range []
      else if s.windowOpen then
        let flagged := s.setSector k { s.sector k with batchSeen := true }
        let (t, c) := entries.foldl (reportOne k)
          (flagged, { seen := 0, accepted := 0, rejected := 0, clamped := 0, first := none })
        { state := t, status := c.status, body := c.body }
      else refuse s .windowClosed []

/-- DEMAND BATCH taken on a link. -/
def takeDemandBatch (l : Link) (tag : Byte) (body : List Byte) (s : State) : State :=
  s.serveBound .demandBatch l tag (demandBatchAnswer body)

/-- DEMAND_BATCH (R74). -/
def execDemandBatch (l : Link) (tag : Byte) (body : List Byte) (s : State) : Host.Outcome State Fault Refusal :=
  .next (takeDemandBatch l tag body s)

/-! ### Presence evaluation (R79 to R81) -/

/-- A bound sector's missed-build count after an evaluation (R79). -/
def Sector.missedAfter (v : Sector) : Nat := if v.batchSeen then 0 else satSucc 15 v.missed

/-- A sector's state after an evaluation, M being the silent limit in force (R79). -/
def Sector.stateAfter (m : Nat) (v : Sector) : SectorState :=
  match v.state with
  | .disabled => .disabled
  | .unbound => .unbound
  | .silent l => if v.batchSeen then .present l else .silent l
  | .present l => if v.batchSeen then .present l else if m ≤ v.missedAfter then .silent l else .present l

/-- The presence of one sector is evaluated: unbound and disabled sectors are left as they are; a change of state
raises SECTOR STATE, and a sector made SILENT loses the moves that target it (R79, R80). -/
def State.evaluatePresence (s : State) (k : SectorId) : State :=
  let v := s.sector k
  match v.state.link? with
  | none => s
  | some _ =>
    let after := v.stateAfter s.policy.m
    let t := s.setSector k { v with state := after, missed := v.missedAfter, batchSeen := false }
    if after = v.state then t
    else if after.isPresent then t.raiseSectorState
    else (t.cancelMovesTo k).raiseSectorState

/-- Presence evaluation of every sector (R79: one sector's does not depend on another's). -/
def State.presence (s : State) : State := allSectors.foldl State.evaluatePresence s

/-- The ages of the records in the rings of PRESENT sectors rise by 1, stopping at 255 (R40). -/
def State.raiseAges (s : State) : State :=
  s.mapOccupants fun i o =>
    if allSectors.any fun k => (s.sector k).state.isPresent && decide (i ∈ (s.sector k).ring) then
      { o with age := satSucc 255 o.age }
    else o

end Sys2Proof.Machine
end

