-- ==== Sys2Proof/Machine/Placement.lean ====
section
/-! DEFINITION. Tile placement and the turnaround edge (chapter 7): directions, the edge arithmetic, the four
conditions of the placement scan, and the bytes a tile carries. -/

namespace Sys2Proof.Machine

/-- The bytes one full tile carries, by link class (R3). -/
def classBytes : Nat → Nat
  | 0 => 0 | 1 => 6 | 2 => 12 | 3 => 18 | 4 => 27 | 5 => 36 | 6 => 48 | 7 => 60
  | _ + 8 => 60

/-- The tiles of a direction in ascending order: 0 to 6D−1, and 6D to 95 (R110). -/
def dirTiles (d : Nat) : Dir → List Nat
  | .dl => List.range (6 * d)
  | .ul => List.range' (6 * d) (96 - 6 * d)

/-- Whether a tile lies in the edge slot, tiles 90 to 95 (R2). -/
def inEdge (t : Nat) : Bool := decide (90 ≤ t)

/-- A subscriber is outer if its timing advance is at least the zone threshold (R4). -/
def isOuter (ta z : Nat) : Bool := decide (z ≤ ta)

/-- The delay in whole symbol periods (R114). -/
def delayOf (ta : Nat) : Nat := ceilDiv ta 16

/-- The symbol periods lost from the end of a record's burst in an edge tile (R115); the difference stops at 0. -/
def trimOf (snap : Snapshot) (e : Entry) : Nat := delayOf e.ta + snap.mh - snap.g

/-- The symbol periods of an edge tile a record can use (R115); the difference stops at 0. -/
def usableOf (snap : Snapshot) (e : Entry) : Nat := 20 - trimOf snap e

/-- Condition (a): the tile has no assignee in the sector (R111). -/
def freeIn (occ : List Assignment) (k : SectorId) (t : Nat) : Bool :=
  occ.all fun a => !decide (a.sector = k ∧ a.tile = t)

/-- The mask of a sector of the snapshot. -/
def Snapshot.mask (snap : Snapshot) (k : SectorId) : TileMask :=
  match snap.sectors.find? fun v => decide (v.id = k) with
  | some v => v.mask
  | none => 0

/-- Condition (b): the snapshot mask does not bar the tile (R111). -/
def notBarred (snap : Snapshot) (k : SectorId) (t : Nat) : Bool := !(snap.mask k).getLsbD t

/-- Condition (c): no adjacent sector has the tile with either party outer (R111, R112). -/
def reuseAllowed (snap : Snapshot) (occ : List Assignment) (e : Entry) (t : Nat) : Bool :=
  occ.all fun a => !(decide (a.tile = t) && snap.adjacency.between e.home a.sector && (e.outer || a.outer))

/-- Condition (d): an edge tile needs a usable count of at least Umin (R111, R116). -/
def edgeFit (snap : Snapshot) (e : Entry) (t : Nat) : Bool :=
  !inEdge t || decide (snap.umin ≤ usableOf snap e)

/-- Whether a tile qualifies for a record (R111). -/
def qualifies (snap : Snapshot) (occ : List Assignment) (e : Entry) (t : Nat) : Bool :=
  freeIn occ e.home t && notBarred snap e.home t && reuseAllowed snap occ e t && edgeFit snap e t

/-- The placement scan: the lowest tile of the direction that qualifies (R110, R111). -/
def scan (snap : Snapshot) (dir : Dir) (occ : List Assignment) (e : Entry) : Option Nat :=
  (dirTiles snap.d dir).find? fun t => qualifies snap occ e t

/-- The bytes a tile carries for a record (R117). -/
def tileBytes (snap : Snapshot) (e : Entry) (t : Nat) : Nat :=
  if inEdge t then classBytes e.cls * usableOf snap e / 20 else classBytes e.cls

/-- The byte total of a grant (R118). -/
def grantBytes (snap : Snapshot) (g : WorkGrant) : Nat := (g.tiles.map (tileBytes snap g.entry)).sum

/-- The edge-trimmed flag of a grant (R118). -/
def grantTrimmed (snap : Snapshot) (g : WorkGrant) : Bool :=
  g.tiles.any inEdge && decide (usableOf snap g.entry < 20)

end Sys2Proof.Machine
end

