-- ==== Sys2Proof/Machine/Build.lean ====
section
/-! DEFINITION. Building the plan (chapter 6): build start and snapshot, need, the three passes, heads, completion. -/

namespace Sys2Proof.Machine

/-! ### The snapshot (R86 to R89) -/

/-- The sector precedence before striking out: N sectors from F mod N, rising and wrapping (R87). -/
def precedence (frame n : Nat) : List SectorId :=
  (List.range n).filterMap fun i => sectorOf ((frame % n + i) % n)

/-- The record entry of an occupant that takes part, in the ring of sector `k` (R89, R40). -/
def entryOf (p : Policy) (k : SectorId) (i : RecIdx) (generation : Nat) (o : Occupant) : Entry where
  index := i
  generation := generation
  home := k
  handle := match o.attachment.place? with
    | some (_, h) => h
    | none => 0
  terms := o.terms
  cls := o.cls
  ta := o.ta
  outer := isOuter o.ta p.z
  creditDL := o.creditDL
  creditUL := o.creditUL
  demandDL := if p.alim ≤ o.age then 0 else o.demandDL
  demandUL := if p.alim ≤ o.age then 0 else o.demandUL

/-- A place of the snapshot ring: a suspended record keeps its place and has no entry (R88). -/
def snapRecord (s : State) (k : SectorId) (i : RecIdx) : SnapRecord where
  index := i
  generation := (s.record i).generation
  entry := match s.occupant i with
    | some o => if o.suspended then none else some (entryOf s.policy k i (s.record i).generation o)
    | none => none

/-- What the snapshot holds for a sector (R86, R88). -/
def snapSector (s : State) (k : SectorId) : SnapSector where
  id := k
  ring := (s.sector k).ring.map (snapRecord s k)
  dlHead := (s.sector k).dlHead
  ulHead := (s.sector k).ulHead
  mask := s.policy.masks.get k

/-- The snapshot of the build that starts now, taken from the state as presence evaluation left it (R86, R7). -/
def snapshotOf (s : State) : Snapshot :=
  let frame := (s.ftu.frame + 1) % 4096
  { frame := frame
    d := s.policy.d
    g := s.policy.g
    umin := s.policy.umin
    z := s.policy.z
    alim := s.policy.alim
    n := s.policy.n
    adjacency := s.policy.adjacency
    budget := if s.powerLow then s.policy.bl else s.policy.bn
    mh := s.ftu.margin
    sectors := ((precedence frame s.policy.n).filter fun k => (s.sector k).state.isPresent).map (snapSector s) }

/-- The record entries of a snapshot: the records that take part (R88). -/
def Snapshot.entries (snap : Snapshot) : List Entry :=
  snap.sectors.flatMap fun v => v.ring.filterMap SnapRecord.entry

/-- The sector of a snapshot, if it is in it. -/
def Snapshot.sector? (snap : Snapshot) (k : SectorId) : Option SnapSector :=
  snap.sectors.find? fun v => decide (v.id = k)

/-! ### Working state -/

/-- The fields of an entry in a direction. -/
def Entry.demand (e : Entry) : Dir → Nat
  | .dl => e.demandDL
  | .ul => e.demandUL

/-- The snapshot credit of a direction. -/
def Entry.credit (e : Entry) : Dir → Nat
  | .dl => e.creditDL
  | .ul => e.creditUL

/-- The snapshot reservation of a direction. -/
def Entry.reservation (e : Entry) : Dir → Nat
  | .dl => e.terms.resDL
  | .ul => e.terms.resUL

/-- The snapshot head of a direction (R88). -/
def SnapSector.head (v : SnapSector) : Dir → Option RecIdx
  | .dl => v.dlHead
  | .ul => v.ulHead

/-- The working state of a direction. -/
def Work.at (w : Work) : Dir → DirWork
  | .dl => w.dl
  | .ul => w.ul

/-- The working state with a direction's replaced. -/
def Work.put (w : Work) (dir : Dir) (v : DirWork) : Work :=
  match dir with
  | .dl => { w with dl := v }
  | .ul => { w with ul := v }

/-- The working fields of a record in a direction; all clear when the build holds none for it. -/
def DirWork.record (v : DirWork) (i : RecIdx) : WorkRecord :=
  (v.records.find? fun r => decide (r.index = i)).getD { index := i, need := 0, credit := 0, blocked := false }

/-- The working fields of a record put through a function. -/
def DirWork.update (v : DirWork) (i : RecIdx) (f : WorkRecord → WorkRecord) : DirWork :=
  { v with records := v.records.map fun r => if r.index = i then f r else r }

/-- A direction before its passes: every record unblocked at its snapshot credit, no need computed, no grant. -/
def DirWork.start (snap : Snapshot) (dir : Dir) : DirWork where
  records := snap.entries.map fun e => { index := e.index, need := 0, credit := e.credit dir, blocked := false }
  grants := []
  lastS := { s0 := none, s1 := none, s2 := none }
  heads := { s0 := none, s1 := none, s2 := none }

/-- The working state at build start: nothing placed, at the first step of the downlink (R84). -/
def Work.start (snap : Snapshot) : Work where
  occupancy := []
  dlCount := 0
  dl := DirWork.start snap .dl
  ul := DirWork.start snap .ul
  position := { dir := .dl, pass := .r, round := 0, sector := none, record := none }

/-! ### Need and the walk (R90, R91) -/

/-- The number of tiles a record can use in a direction (R90). -/
def needOf (e : Entry) (dir : Dir) : Nat :=
  if e.cls = 0 ∨ e.demand dir = 0 then 0 else min (ceilDiv (e.demand dir) (classBytes e.cls)) e.terms.cap

/-- The needs of a direction are computed (R90). -/
def setNeeds (snap : Snapshot) (dir : Dir) (w : Work) : Work :=
  w.put dir (snap.entries.foldl (fun v e => v.update e.index fun r => { r with need := needOf e dir }) (w.at dir))

/-- A ring in walking order from a head (R91). -/
def walkFrom (head : RecIdx) (ring : List SnapRecord) : List SnapRecord :=
  ring.dropWhile (fun r => r.index ≠ head) ++ ring.takeWhile (fun r => r.index ≠ head)

/-- The walk of a direction: the sectors in precedence, each ring from its head, over the records that take part; a
sector with no head is passed over (R91). -/
def walkOf (snap : Snapshot) (dir : Dir) : List Entry :=
  snap.sectors.flatMap fun v =>
    match v.head dir with
    | some h => (walkFrom h v.ring).filterMap SnapRecord.entry
    | none => []

/-! ### Placement attempts (R92, R93, R98) -/

/-- The three outcomes of a placement attempt (R92). -/
inductive Attempted where
  | placed
  | blocked
  | noBudget
  deriving DecidableEq, Repr

/-- Whether the budget refuses every attempt of a direction (R98). -/
def budgetSpent (snap : Snapshot) (dir : Dir) (w : Work) : Bool :=
  match dir with
  | .dl => decide (snap.budget ≤ w.dlCount)
  | .ul => false

/-- A grant with one more tile, counted under its pass (R100). -/
def WorkGrant.add (pass : Pass) (t : Nat) (g : WorkGrant) : WorkGrant :=
  match pass with
  | .r => { g with tiles := g.tiles ++ [t], nR := g.nR + 1 }
  | .s => { g with tiles := g.tiles ++ [t], nS := g.nS + 1 }
  | .l => { g with tiles := g.tiles ++ [t], nL := g.nL + 1 }

/-- A tile joins a record's grant; the first tile starts it, after the grants already started (R100, R124). -/
def addToGrant (pass : Pass) (e : Entry) (t : Nat) (grants : List WorkGrant) : List WorkGrant :=
  if grants.any fun g => decide (g.entry.index = e.index) then
    grants.map fun g => if g.entry.index = e.index then g.add pass t else g
  else grants ++ [WorkGrant.add pass t { entry := e, tiles := [], nR := 0, nS := 0, nL := 0 }]

/-- The working state after a tile is placed: occupancy, count, need and grant (R92). -/
def placeTile (dir : Dir) (pass : Pass) (e : Entry) (t : Nat) (w : Work) : Work :=
  let v := (w.at dir).update e.index fun r => { r with need := r.need - 1 }
  let w := w.put dir { v with grants := addToGrant pass e t v.grants }
  { w with
    occupancy := w.occupancy ++ [{ sector := e.home, tile := t, index := e.index, outer := e.outer }]
    dlCount := match dir with
      | .dl => w.dlCount + 1
      | .ul => w.dlCount }

/-- A placement attempt for a record in a direction (R92): refused by the budget, placed, or refused by the scan and
blocked (R93). -/
def attempt (snap : Snapshot) (dir : Dir) (pass : Pass) (e : Entry) (w : Work) : Work × Attempted :=
  if budgetSpent snap dir w then (w, .noBudget)
  else
    match scan snap dir w.occupancy e with
    | some t => (placeTile dir pass e t w, .placed)
    | none => (w.put dir ((w.at dir).update e.index fun r => { r with blocked := true }), .blocked)

/-- The build's position moves to a record's turn (R84). -/
def Work.reach (w : Work) (dir : Dir) (pass : Pass) (round : Nat) (e : Entry) : Work :=
  { w with position := { dir := dir, pass := pass, round := round, sector := some e.home, record := some e.index } }

/-! ### Pass R and the credit update (R94, R95) -/

/-- Up to `n` reservation attempts one after another, until one is refused (R94). -/
def reserve (snap : Snapshot) (dir : Dir) (e : Entry) : Nat → Work → Work
  | 0, w => w
  | n + 1, w =>
    match attempt snap dir .r e w with
    | (w', .placed) => reserve snap dir e n w'
    | (w', .blocked) => w'
    | (w', .noBudget) => w'

/-- A record's turn in Pass R: min(reservation, need) attempts (R94). -/
def turnR (snap : Snapshot) (dir : Dir) (w : Work) (e : Entry) : Work :=
  reserve snap dir e (min (e.reservation dir) ((w.at dir).record e.index).need) (w.reach dir .r 0 e)

/-- Pass R: one walk. Once the budget is reached every later attempt is refused without effect, so ending the pass
at once (R98) and finishing the walk are the same. -/
def passR (snap : Snapshot) (dir : Dir) (w : Work) : Work := (walkOf snap dir).foldl (turnR snap dir) w

/-- The credit update of a record: min(C + w, 4w) with need, else 0 (R95). -/
def WorkRecord.updateCredit (e : Entry) (r : WorkRecord) : WorkRecord :=
  { r with credit := if 0 < r.need then min (r.credit + e.terms.weight) (4 * e.terms.weight) else 0 }

/-- The credit update of a direction, over every record that takes part (R95). -/
def creditUpdate (snap : Snapshot) (dir : Dir) (w : Work) : Work :=
  w.put dir (snap.entries.foldl (fun v e => v.update e.index (WorkRecord.updateCredit e)) (w.at dir))

/-! ### Pass S and Pass L (R96, R97) -/

/-- A tile of Pass S is paid for with one credit, and its record becomes the sector's last Pass S recipient (R96). -/
def spendCredit (dir : Dir) (e : Entry) (w : Work) : Work :=
  let v := (w.at dir).update e.index fun r => { r with credit := r.credit - 1 }
  w.put dir { v with lastS := v.lastS.set e.home (some e.index) }

/-- A record's turn in a round of Pass S (R96). -/
def turnS (snap : Snapshot) (dir : Dir) (round : Nat) (w : Work) (e : Entry) : Work :=
  let r := (w.at dir).record e.index
  if 0 < r.need ∧ 0 < r.credit ∧ r.blocked = false then
    match attempt snap dir .s e (w.reach dir .s round e) with
    | (w', .placed) => spendCredit dir e w'
    | (w', .blocked) => w'
    | (w', .noBudget) => w'
  else w

/-- A record's turn in a round of Pass L (R97). -/
def turnL (snap : Snapshot) (dir : Dir) (round : Nat) (w : Work) (e : Entry) : Work :=
  let r := (w.at dir).record e.index
  if 0 < r.need ∧ r.blocked = false then (attempt snap dir .l e (w.reach dir .l round e)).1 else w

/-- Rounds of a pass, each a walk, until one places no tile (R96, R97). The first argument bounds the rounds: every
round but the last lowers the total working need. -/
def rounds (snap : Snapshot) (dir : Dir) (turn : Nat → Work → Entry → Work) : Nat → Nat → Work → Work
  | 0, _, w => w
  | fuel + 1, round, w =>
    let w' := (walkOf snap dir).foldl (turn round) w
    if w'.occupancy.length = w.occupancy.length then w' else rounds snap dir turn fuel (round + 1) w'

/-- The total working need of a direction. -/
def DirWork.totalNeed (v : DirWork) : Nat := (v.records.map WorkRecord.need).sum

/-- Pass S (R96). -/
def passS (snap : Snapshot) (dir : Dir) (w : Work) : Work :=
  rounds snap dir (turnS snap dir) ((w.at dir).totalNeed + 1) 1 w

/-- Pass L (R97). -/
def passL (snap : Snapshot) (dir : Dir) (w : Work) : Work :=
  rounds snap dir (turnL snap dir) ((w.at dir).totalNeed + 1) 1 w

/-! ### Working heads (R99) and the whole build (R91) -/

/-- The working head of a sector: the successor, in the snapshot ring, of the record that took its last Pass S
tile (R99). -/
def workHead (snap : Snapshot) (v : DirWork) (k : SectorId) : Option WorkHead :=
  match snap.sector? k, v.lastS.get k with
  | some sec, some i =>
    match ringSuccessor i (sec.ring.map SnapRecord.index) with
    | some j =>
      (sec.ring.find? fun r => decide (r.index = j)).map fun r => { index := j, generation := r.generation }
    | none => none
  | _, _ => none

/-- The working heads of a direction are fixed (R99). -/
def fixHeads (snap : Snapshot) (dir : Dir) (w : Work) : Work :=
  w.put dir { w.at dir with heads := PerSector.of (workHead snap (w.at dir)) }

/-- One direction: need, Pass R, credit update, Pass S, Pass L, working heads (R91). -/
def runDir (snap : Snapshot) (dir : Dir) (w : Work) : Work :=
  fixHeads snap dir (passL snap dir (passS snap dir (creditUpdate snap dir (passR snap dir (setNeeds snap dir w)))))

/-- The downlink first and then the uplink (R91). -/
def runBuild (snap : Snapshot) (w : Work) : Work := runDir snap .ul (runDir snap .dl w)

/-! ### What the build hands over (R100 to R105) -/

/-- Whether a record still has the generation, the home and the handle a grant or entry was made for, and is ACTIVE
or MOVING (R103, R104). -/
def stillHeld (s : State) (k : SectorId) (i : RecIdx) (generation handle : Nat) : Bool :=
  match s.occupant i with
  | some o => decide ((s.record i).generation = generation) && decide (o.attachment.place? = some (k, handle))
  | none => false

/-- Whether a record is suspended. -/
def isSuspended (s : State) (i : RecIdx) : Bool :=
  match s.occupant i with
  | some o => o.suspended
  | none => false

/-- The void test of a grant in a sector's list (R103). -/
def grantFails (s : State) (k : SectorId) (g : Grant) : Bool :=
  !stillHeld s k g.index g.generation g.handle || isSuspended s g.index

/-- A grant as the plan record holds it, before the void test (R100, R118). -/
def grantOf (snap : Snapshot) (dir : Dir) (g : WorkGrant) : Grant where
  index := g.entry.index
  generation := g.entry.generation
  handle := g.entry.handle
  dir := dir
  tiles := g.tiles
  nR := g.nR
  nS := g.nS
  nL := g.nL
  bytes := grantBytes snap g
  trimmed := grantTrimmed snap g
  void := false

/-- The grants of a sector in a direction, in the order the build started them (R124). -/
def sectorGrants (snap : Snapshot) (dir : Dir) (v : DirWork) (k : SectorId) : List Grant :=
  (v.grants.filter fun g => decide (g.entry.home = k)).map (grantOf snap dir)

/-- Whether a tile is of a direction, D being the snapshot's (R110). -/
def inDir (d : Nat) (dir : Dir) (t : Nat) : Bool :=
  match dir with
  | .dl => decide (t < 6 * d)
  | .ul => decide (6 * d ≤ t)

/-- The working fields of a sector's records that take part. -/
def sectorRecords (snap : Snapshot) (v : DirWork) (k : SectorId) : List WorkRecord :=
  (snap.entries.filter fun e => decide (e.home = k)).map fun e => v.record e.index

/-- The summary of a sector in a direction (R101). -/
def summaryOf (snap : Snapshot) (dir : Dir) (w : Work) (k : SectorId) : Summary where
  tiles := w.occupancy.countP fun a => decide (a.sector = k) && inDir snap.d dir a.tile
  served := (w.at dir).grants.countP fun g => decide (g.entry.home = k)
  unmet := ((sectorRecords snap (w.at dir) k).map WorkRecord.need).sum
  blocked := (sectorRecords snap (w.at dir) k).countP WorkRecord.blocked

/-- The plan a finished build forms, before the void test; a sector not in the snapshot is not in the plan (R101,
R122, R124). -/
def planOf (snap : Snapshot) (w : Work) : Plan where
  d := snap.d
  g := snap.g
  mh := snap.mh
  budget := snap.budget
  used := w.dlCount
  sectors := PerSector.of fun k =>
    match snap.sector? k with
    | some _ =>
      some { grants := sectorGrants snap .dl w.dl k ++ sectorGrants snap .ul w.ul k
             dl := summaryOf snap .dl w k
             ul := summaryOf snap .ul w k }
    | none => none

/-- A committed credit: the working credit, at most 4 times the weight now (R104). -/
def committed (credit weight : Nat) : Nat := min credit (4 * weight)

/-- The working credits of the records that still match their snapshot entries are committed, both directions
together (R104). -/
def State.commitCredits (snap : Snapshot) (w : Work) (s : State) : State :=
  s.mapOccupants fun i o =>
    match snap.entries.find? fun e => decide (e.index = i) with
    | some e =>
      if stillHeld s e.home i e.generation e.handle then
        { o with creditDL := committed (w.dl.record i).credit o.terms.weight
                 creditUL := committed (w.ul.record i).credit o.terms.weight }
      else o
    | none => o

/-- A live head after the commit of a working head: the working head if its record, with its generation, is in the
live ring, else as it stands (R105). -/
def committedHead (s : State) (ring : List RecIdx) (live : Option RecIdx) : Option WorkHead → Option RecIdx
  | some h => if h.index ∈ ring ∧ (s.record h.index).generation = h.generation then some h.index else live
  | none => live

/-- The working heads are committed to the live rings (R105). -/
def State.commitHeads (w : Work) (s : State) : State :=
  { s with
    sectors := PerSector.of fun k =>
      let v := s.sector k
      { v with dlHead := committedHead s v.ring v.dlHead (w.dl.heads.get k)
               ulHead := committedHead s v.ring v.ulHead (w.ul.heads.get k) } }

/-- Build completion (R102 to R106): the build is worked through, NEXT is written with each grant tested, credits and
heads are committed, PLAN READY is raised and the Plan Builder returns to IDLE. Nothing happens when it is IDLE. -/
def State.complete (s : State) : State :=
  match s.builder with
  | none => s
  | some b =>
    let snap := b.snapshot
    let w := runBuild snap b.work
    let t := { s with
      next := some { frame := snap.frame, plan := (planOf snap w).voidWhere (grantFails s) }
      builder := none }
    ((t.commitCredits snap w).commitHeads w).raisePlanReady snap.frame

/-- Build start (R85): presence is evaluated, the snapshot taken, the ages raised, and the build enters IN FLIGHT. -/
def State.startBuild (s : State) : State :=
  let s := s.presence
  let snap := snapshotOf s
  { s.raiseAges with builder := some { snapshot := snap, work := Work.start snap, age := 0 } }

/-- The greatest number of reference clock edges from build start to completion (R102). -/
def buildLimit : Nat := 4096

/-- A reference clock edge as the Plan Builder sees it: a build that has had its 4,096 edges has completed before the
next one (R102; DESIGN CHOICE, notes/assumptions/5.md). -/
def State.ageBuild (s : State) : State :=
  match s.builder with
  | none => s
  | some b => if buildLimit ≤ b.age then s.complete else { s with builder := some { b with age := b.age + 1 } }

end Sys2Proof.Machine
end

