-- ==== Sys2Proof/Machine/Plans.lean ====
section
/-! DEFINITION. Plans and publication (chapter 8): the switch and the repeat at frame start, and READ GRANTS and READ
PLAN SUMMARY. BUILD_COMPLETION stands here too. -/

namespace Sys2Proof.Machine

/-! ### The plan at a frame start (R126, R127) -/

/-- LIVE is repeated for a frame, no matching NEXT being held; `abandoned` says whether this frame start abandoned a
build (R127). -/
def State.repeatLive (frame : Nat) (abandoned : Bool) (s : State) : State :=
  match s.live.plan with
  | .empty _ => { s with live := { frame := frame, plan := .empty abandoned }, next := none }
  | .built p | .repeated p =>
    ({ s with live := { frame := frame, plan := .repeated (p.voidWhere (grantFails s)) }, next := none }).raisePlanReady
      frame

/-- The Plan Store's and the Plan Builder's part of a frame start: a build in flight is abandoned (R107, R108), then
a BUILT NEXT of the frame switches (R126) or LIVE is repeated (R127). -/
def State.planFrameStart (frame : Nat) (s : State) : State :=
  let abandoned := s.builder.isSome
  let s := { s with builder := none }
  match s.next with
  | some n =>
    if n.frame = frame then { s with live := { frame := frame, plan := .built n.plan }, next := none }
    else s.repeatLive frame abandoned
  | none => s.repeatLive frame abandoned

/-! ### Reading a plan (R130 to R132, R168) -/

/-- A plan record as a read sees it: frame, status (0 EMPTY, 1 BUILT, 2 REPEATED), overrun flag and contents. -/
structure PlanView where
  frame : Nat
  status : Nat
  overrun : Bool
  plan : Option Plan
  deriving DecidableEq, Repr

/-- LIVE as a read sees it (R123). -/
def Live.view (v : Live) : PlanView :=
  match v.plan with
  | .empty o => { frame := v.frame, status := 0, overrun := o, plan := none }
  | .built p => { frame := v.frame, status := 1, overrun := false, plan := some p }
  | .repeated p => { frame := v.frame, status := 2, overrun := true, plan := some p }

/-- A BUILT NEXT as a read sees it (R123). -/
def NextPlan.view (n : NextPlan) : PlanView where
  frame := n.frame
  status := 1
  overrun := false
  plan := some n.plan

/-- What a read of a frame finds (R130). -/
inductive PlanFound where
  | plan (v : PlanView)
  | notYet
  | stale
  deriving DecidableEq, Repr

/-- NOT_YET while a build of the frame is in flight, else STALE (R130). -/
def State.findBuild (s : State) (frame : Nat) : PlanFound :=
  match s.builder with
  | some b => if b.snapshot.frame = frame then .notYet else .stale
  | none => .stale

/-- The frame number is compared with LIVE, then a BUILT NEXT, then the build in flight (R130). -/
def State.findPlan (s : State) (frame : Nat) : PlanFound :=
  if s.live.frame = frame then .plan s.live.view
  else
    match s.next with
    | some n => if n.frame = frame then .plan n.view else s.findBuild frame
    | none => s.findBuild frame

/-- The plan byte without the sector-in-plan flag (R167). -/
def PlanView.byte (v : PlanView) : Nat := v.status + 4 * v.overrun.toNat

/-- PLAN READY is cleared on a link whose ready frame is the frame read (R134). -/
def State.clearPlanReady (s : State) (l : Link) (frame : Nat) : State :=
  if (s.port l).readyFrame = frame then
    s.setPort l ((s.port l).withCauses { (s.port l).causes with planReady := false })
  else s

/-- The slots in which a grant holds tiles, ascending (R131). -/
def grantSlots (g : Grant) : List Nat :=
  (List.range 16).filter fun k => g.tiles.any fun t => decide (t / 6 = k)

/-- The subchannel set of a slot of a grant: bit n for subchannel n (R168). -/
def subchannelSet (g : Grant) (slot : Nat) : Nat :=
  ((List.range 6).filter fun n => decide (6 * slot + n ∈ g.tiles)).foldl (fun acc n => acc + 2 ^ n) 0

/-- Byte 3 of a grant entry: direction, edge-trimmed, void, and the number of slot pairs (R168). -/
def grantFlags (g : Grant) : Nat :=
  (match g.dir with | .dl => 0 | .ul => 1) + 2 * g.trimmed.toNat + 4 * g.void.toNat + 16 * (grantSlots g).length

/-- A grant entry (R168). -/
def grantEntry (g : Grant) : List Byte :=
  put8 g.index.val ++ put8 g.generation ++ put8 g.handle ++ put8 (grantFlags g) ++
    put16 (g.nR + 8 * g.nS + 512 * g.nL) ++ put16 g.bytes ++
    (grantSlots g).flatMap fun k => put8 k ++ put8 (subchannelSet g k)

/-- The entries that fit whole into the room left, packed in list order (R131). -/
def packEntries : Nat → List Grant → List (List Byte)
  | _, [] => []
  | room, g :: rest =>
    let e := grantEntry g
    if e.length ≤ room then e :: packEntries (room - e.length) rest else []

/-- The body of an OK answer to READ GRANTS (R131, R168). -/
def grantsBody (v : PlanView) (k : SectorId) (first : Nat) : List Byte :=
  let sp := v.plan.bind fun p => p.sectors.get k
  let grants := match sp with
    | some sp => sp.grants
    | none => []
  let entries := packEntries 54 (grants.drop first)
  let total := grants.length
  put16 v.frame ++ put8 (v.byte + 8 * sp.isSome.toNat) ++ put8 total ++ put8 entries.length ++
    put8 (min (first + entries.length) total) ++ entries.flatten

/-- READ GRANTS from the link bound to sector `k` (R130, R131, R134). -/
def readGrantsAnswer (l : Link) (body : List Byte) (k : SectorId) (s : State) : Answer :=
  match body with
  | [f0, f1, first] =>
    match s.findPlan (fieldFrame f0 f1) with
    | .plan v =>
      { state := s.clearPlanReady l (fieldFrame f0 f1), status := .ok, body := grantsBody v k first.toNat }
    | .notYet => refuse s .notYet []
    | .stale => refuse s .stale []
  | _ => refuse s .range []

/-- The five bytes of a summary (R167). -/
def putSummary (u : Summary) : List Byte := put8 u.tiles ++ put8 u.served ++ put16 u.unmet ++ put8 u.blocked

/-- The ten bytes of a sector in READ PLAN SUMMARY: all 0 when it is not in the plan (R167). -/
def putSectorSummary : Option SectorPlan → List Byte
  | some sp => putSummary sp.dl ++ putSummary sp.ul
  | none => List.replicate 10 0

/-- The body of an OK answer to READ PLAN SUMMARY (R132, R167). -/
def summaryBody (v : PlanView) : List Byte :=
  let sectors : PerSector (Option SectorPlan) := match v.plan with
    | some p => p.sectors
    | none => { s0 := none, s1 := none, s2 := none }
  let head := match v.plan with
    | some p => put8 p.d ++ put8 p.g ++ put8 p.mh ++ put8 p.budget ++ put8 p.used
    | none => List.replicate 5 0
  put16 v.frame ++ put8 v.byte ++ head ++
    put8 (sectors.s0.isSome.toNat + 2 * sectors.s1.isSome.toNat + 4 * sectors.s2.isSome.toNat) ++
    putSectorSummary sectors.s0 ++ putSectorSummary sectors.s1 ++ putSectorSummary sectors.s2

/-- READ PLAN SUMMARY (R132, R134). -/
def readPlanSummaryAnswer (l : Link) (body : List Byte) (s : State) : Answer :=
  match body with
  | [f0, f1] =>
    match s.findPlan (fieldFrame f0 f1) with
    | .plan v => { state := s.clearPlanReady l (fieldFrame f0 f1), status := .ok, body := summaryBody v }
    | .notYet => refuse s .notYet []
    | .stale => refuse s .stale []
  | _ => refuse s .range []

/-- READ GRANTS taken on a link. -/
def takeReadGrants (l : Link) (tag : Byte) (body : List Byte) (s : State) : State :=
  s.serveBound .readGrants l tag (readGrantsAnswer l body)

/-- READ PLAN SUMMARY taken on a link. -/
def takeReadPlanSummary (l : Link) (tag : Byte) (body : List Byte) (s : State) : State :=
  s.serve .readPlanSummary l tag (readPlanSummaryAnswer l body)

/-- READ_GRANTS (R130). -/
def execReadGrants (l : Link) (tag : Byte) (body : List Byte) (s : State) : Host.Outcome State Fault Refusal :=
  .next (takeReadGrants l tag body s)

/-- READ_PLAN_SUMMARY (R132). -/
def execReadPlanSummary (l : Link) (tag : Byte) (body : List Byte) (s : State) : Host.Outcome State Fault Refusal :=
  .next (takeReadPlanSummary l tag body s)

/-- BUILD_COMPLETION (R102): the build in flight completes. -/
def execBuildCompletion (s : State) : Host.Outcome State Fault Refusal := .next s.complete

end Sys2Proof.Machine
end

