-- ==== Sys2Proof/Machine/Timing.lean ====
section
/-! DEFINITION. Frame timing (chapter 2): slot boundaries, frame starts, the judging of pulses, one reference clock
edge, the quiet stretches between events, SET TIMING and READ TIMING. The rows of the part's own timing events stand
here too. -/

namespace Sys2Proof.Machine

/-! ### Slot boundaries (R20, R21, R72, R85, R155) -/

/-- A slot-boundary event as a Link Port sees it: counted while select is asserted, and the period times out when the
count reaches the hold limit plus one (R155). -/
def Port.countSlot (p : Port) : Port :=
  if p.selected && !p.timedOut then
    { p with slots := p.slots + 1, timedOut := decide (p.hold + 1 ≤ p.slots + 1) }
  else p

/-- The slot-boundary event of slot `k`: the Link Ports count it (R155), at slot O the window opens, and at slot W it
closes and a build starts (R72, R73, R85). -/
def State.slotEvent (s : State) (k : Nat) : State :=
  let s := s.mapPorts fun _ p => p.countSlot
  if k = s.policy.window.o then { s with windowOpen := true }
  else if k = s.policy.window.w then { s with windowOpen := false }.startBuild
  else s

/-- The count at which slot `k` begins, P being the period in force (R20). -/
def slotCount (p k : Nat) : Nat := k * p / 16

/-- The slots 1 to 15 whose boundary lies above `after` and at or below `upTo`, if a bound is given (R20, R21). -/
def slotsDue (p after : Nat) (upTo : Option Nat) : List Nat :=
  (List.range' 1 15).filter fun k =>
    decide (after < slotCount p k) && match upTo with
      | some c => decide (slotCount p k ≤ c)
      | none => true

/-- Slot-boundary events in ascending order. -/
def State.slotEvents (s : State) (slots : List Nat) : State := slots.foldl State.slotEvent s

/-! ### Frame starts (R19, R31, R14, R126, R127, R147) -/

/-- The frame number a frame start carries: 0 for the first after power-on reset, else one more than the last,
wrapping from 4095 to 0 (R19, R34). -/
def Ftu.nextFrame (f : Ftu) : Nat := if f.fresh then f.frame else (f.frame + 1) % 4096

/-- The FTU's own part of a frame start: count 0, the new number, and the pending set in force (R19, R31). -/
def Ftu.startFrame (f : Ftu) : Ftu :=
  { f with fresh := false, count := 0, frame := f.nextFrame,
           inForce := f.pendingSet.getD f.inForce, pendingSet := none }

/-- The pending window pair becomes the pair in force (R14). -/
def Policy.applyWindow (p : Policy) : Policy :=
  { p with window := p.pendingWindow.getD p.window, pendingWindow := none }

/-- A frame start: the FTU, the window pair, the Plan Store, the Move Unit, and the boundary of slot 0 (R19, R20). -/
def State.startFrame (s : State) : State :=
  let frame := s.ftu.nextFrame
  let s := { s with ftu := s.ftu.startFrame, policy := s.policy.applyWindow }
  ((s.planFrameStart frame).countdown).slotEvent 0

/-! ### Pulses (R23 to R30) -/

/-- The saturation of the running count and the largest frame period (R29, R31). -/
def maxInterval : Nat := 1048575

/-- The limit of the 16-bit counters (R30). -/
def maxCounter : Nat := 65535

/-- The FTU's measurement at an edge, the frame pulse input being sampled at `level`; `pulse` says whether the edge
carries a pulse (R19, R29). The running count counts before the first pulse too (DESIGN CHOICE,
notes/assumptions/13.md). -/
def Ftu.measure (f : Ftu) (level pulse : Bool) : Ftu :=
  let running := min (f.running + 1) maxInterval
  if pulse then
    { f with sampled := level, running := 0, pulseSeen := true,
             interval := if f.pulseSeen then running else f.interval }
  else { f with sampled := level, running := running }

/-- The FTU with a timing state, an H and a good-run count of 0. -/
def Ftu.enter (f : Ftu) (state : TimingState) (h : Nat) : Ftu := { f with state := state, h := h, goodRun := 0 }

/-- Relock: LOCKED, H 0, good-run 0, TIMING raised (R27, R33). -/
def State.relock (s : State) : State := { s with ftu := s.ftu.enter .locked 0 }.raiseTiming

/-- The missed expiry's own effects: HOLDOVER with H 1, the missed counter up, TIMING raised (R24, R33). -/
def State.expire (s : State) : State :=
  { s with ftu := { s.ftu.enter .holdover 1 with missed := satSucc maxCounter s.ftu.missed } }.raiseTiming

/-- A good pulse that is judged against a relock count `k`: the run grows, and at `k` or above the part relocks
(R26, R27). -/
def State.goodPulse (s : State) (k : Nat) : State :=
  if k ≤ s.ftu.goodRun + 1 then s.relock
  else { s with ftu := { s.ftu with goodRun := s.ftu.goodRun + 1 } }

/-- A stray pulse (R26). -/
def State.strayPulse (s : State) : State :=
  { s with ftu := { s.ftu with stray := satSucc maxCounter s.ftu.stray, goodRun := 0 } }

/-- A glitch (R23). -/
def State.glitchPulse (s : State) : State :=
  { s with ftu := { s.ftu with glitch := satSucc maxCounter s.ftu.glitch } }

/-! ### One reference clock edge (R19 to R27) -/

/-- An edge that starts no frame: the count rises by 1 and the slot boundary at the new count, if there is one, is
emitted. -/
def State.advance (s : State) : State :=
  { s with ftu := { s.ftu with count := s.ftu.count + 1 } }.slotEvents
    (slotsDue s.ftu.inForce.p s.ftu.count (some (s.ftu.count + 1)))

/-- The slot boundaries of the ending frame that have not yet been emitted (R21). -/
def State.outstanding (s : State) : State :=
  s.slotEvents (slotsDue s.ftu.inForce.p s.ftu.count none)

/-- H rises by 1 at a frame start in HOLDOVER, stopping at 4,095 (R25). -/
def Ftu.raiseH (f : Ftu) : Ftu :=
  match f.state with
  | .holdover => { f with h := satSucc 4095 f.h }
  | .free => f
  | .locked => f

/-- An edge in LOCKED (R23, R24). -/
def State.edgeLocked (s : State) (pulse : Bool) : State :=
  let c := s.ftu.count + 1
  let par := s.ftu.inForce
  if pulse then
    if c + par.t < par.p then s.glitchPulse.advance else s.outstanding.startFrame
  else if par.p + par.t ≤ c then s.outstanding.expire.startFrame
  else s.advance

/-- An edge in FREE or HOLDOVER, or the first edge after power-on reset (R22, R25, R26, R27, R34). A pulse at an edge
that starts a frame on the FTU's own count has count 0, and is judged against the set in force before the edge. A relock
at c ≤ T comes before a slot boundary at its edge (DEDUCED, notes/assumptions/8.md). -/
def State.edgeFree (s : State) (pulse : Bool) : State :=
  let c := s.ftu.count + 1
  let par := s.ftu.inForce
  if s.ftu.fresh ∨ par.p ≤ c then
    let t := { s with ftu := s.ftu.raiseH }.startFrame
    if pulse then t.goodPulse par.k else t
  else if pulse then
    if par.p ≤ c + par.t ∧ par.k ≤ s.ftu.goodRun + 1 then s.outstanding.relock.startFrame
    else if c ≤ par.t ∨ par.p ≤ c + par.t then (s.goodPulse par.k).advance
    else s.strayPulse.advance
  else s.advance

/-- One reference clock edge, the frame pulse input being sampled at `level` (R19). The order of what falls at one edge
is that of notes/assumptions/17.md (DESIGN CHOICE). -/
def State.edge (s : State) (level : Bool) : State :=
  let s := s.ageBuild
  let pulse := level && !s.ftu.sampled
  let s := { s with ftu := s.ftu.measure level pulse }
  match s.ftu.state with
  | .locked => s.edgeLocked pulse
  | .free => s.edgeFree pulse
  | .holdover => s.edgeFree pulse

/-! ### Quiet stretches: edges with the frame pulse input sampled released (DESIGN CHOICE, notes/assumptions/6.md) -/

/-- `n` quiet edges on which no slot boundary and no frame start falls, taken together. -/
def State.skip (s : State) (n : Nat) : State :=
  let t := match s.builder with
    | some b => if buildLimit < b.age + n then s.complete else { s with builder := some { b with age := b.age + n } }
    | none => s
  { t with ftu := { t.ftu with
      count := t.ftu.count + n
      running := min (t.ftu.running + n) maxInterval
      sampled := if n = 0 then t.ftu.sampled else false } }

/-- The count at which the next slot boundary comes when no pulse does: that of a later slot of the frame, else the
end of the frame at P, or at P + T in LOCKED (R20, R22, R24). -/
def Ftu.nextCount (f : Ftu) : Nat :=
  match slotsDue f.inForce.p f.count none with
  | k :: _ => slotCount f.inForce.p k
  | [] => match f.state with
    | .locked => f.inForce.p + f.inForce.t
    | .free => f.inForce.p
    | .holdover => f.inForce.p

/-- The number of quiet edges up to and including the next slot boundary; the first edge after reset is one. -/
def Ftu.quietEdges (f : Ftu) : Nat := if f.fresh then 1 else max 1 (f.nextCount - f.count)

/-- The part after the quiet edges up to and including the next slot boundary, that of slot 0 being a frame start. -/
def State.toNextSlot (s : State) : State := (s.skip (s.ftu.quietEdges - 1)).edge false

/-- The slot boundaries up to and including the next frame start. -/
def Ftu.slotsLeft (f : Ftu) : Nat := if f.fresh then 1 else (slotsDue f.inForce.p f.count none).length + 1

/-- The part after the quiet edges up to and including the next frame start. -/
def State.toNextFrame (s : State) : State := State.toNextSlot^[s.ftu.slotsLeft] s

/-- Whether a record is MOVING. -/
def isMoving (s : State) (i : RecIdx) : Bool :=
  match s.occupant i with
  | some o => o.attachment.move?.isSome
  | none => false

/-- The part after quiet frames, at most `n`, until a record's move has ended. -/
def State.toMoveEnd (i : RecIdx) : Nat → State → State
  | 0, s => s
  | n + 1, s => if isMoving s i then State.toMoveEnd i n s.toNextFrame else s

/-- The frames remaining of a record's move; 0 when it is not MOVING. -/
def framesLeft (s : State) (i : RecIdx) : Nat :=
  match s.occupant i with
  | some o => match o.attachment.move? with
    | some (_, n) => n
    | none => 0
  | none => 0

/-! ### The rows of the timing events -/

/-- REFERENCE_CLOCK_EDGE (R19): one edge, the frame pulse input sampled at `pulseLine`. -/
def execReferenceClockEdge (pulseLine : Bool) (s : State) : Host.Outcome State Fault Refusal :=
  .next (s.edge pulseLine)

/-- PULSE (R19): an edge at which the frame pulse input is sampled asserted. It carries a pulse unless the line was
sampled asserted at the edge before (R19: one pulse for a line held asserted; DESIGN CHOICE,
notes/assumptions/10.md). -/
def execPulse (s : State) : Host.Outcome State Fault Refusal := .next (s.edge true)

/-- SLOT_BOUNDARY (R20): the quiet edges up to and including the next slot boundary. -/
def execSlotBoundary (s : State) : Host.Outcome State Fault Refusal := .next s.toNextSlot

/-- FRAME_START (R22): the quiet edges up to and including the next frame start. -/
def execFrameStart (s : State) : Host.Outcome State Fault Refusal := .next s.toNextFrame

/-- MISSED_EXPIRY (R24): in LOCKED, the quiet edges up to and including the edge at which the count reaches P + T. In
FREE and HOLDOVER there is no pulse to miss, the event does not come and nothing changes. -/
def execMissedExpiry (s : State) : Host.Outcome State Fault Refusal :=
  match s.ftu.state with
  | .locked => .next s.toNextFrame
  | .free => .next s
  | .holdover => .next s

/-- MOVE_EXPIRY (R147): the quiet frames up to and including the frame start at which the record's move ends. A
record that is not MOVING has no move to expire, and nothing changes. -/
def execMoveExpiry (record : RecIdx) (s : State) : Host.Outcome State Fault Refusal :=
  .next (s.toMoveEnd record (framesLeft s record))

/-! ### SET TIMING and READ TIMING (R31, R32) -/

/-- Timing values clamped to their ranges (R31). -/
def clampTiming (p t k : Nat) : TimingSet where
  p := clampTo 16384 1048575 p
  t := clampTo 0 4095 t
  k := clampTo 1 15 k

/-- SET TIMING (R31). -/
def setTimingAnswer (body : List Byte) (s : State) : Answer :=
  match body with
  | [p0, p1, p2, t0, t1, k] =>
    let sent : TimingSet := { p := field24 p0 p1 p2, t := field16 t0 t1, k := k.toNat }
    let stored := clampTiming sent.p sent.t sent.k
    { state := { s with ftu := { s.ftu with pendingSet := some stored } }
      status := if stored = sent then .ok else .okClamped
      body := put24 stored.p ++ put16 stored.t ++ put8 stored.k }
  | _ => refuse s .range []

/-- The thirty-two bytes of READ TIMING (R32, R167). -/
def timingBody (f : Ftu) : List Byte :=
  let held : TimingSet := f.pendingSet.getD { p := 0, t := 0, k := 0 }
  put8 (timingStateNo f.state) ++ put16 f.frame ++ put24 f.count ++ put16 f.h ++ put8 f.margin ++ put8 f.goodRun ++
    put24 f.interval ++ put16 f.glitch ++ put16 f.missed ++ put16 f.stray ++ put24 f.inForce.p ++ put16 f.inForce.t ++
    put8 f.inForce.k ++ putFlag f.pendingSet.isSome ++ put24 held.p ++ put16 held.t ++ put8 held.k

/-- READ TIMING (R32). -/
def readTimingAnswer (l : Link) (body : List Byte) (s : State) : Answer :=
  match body with
  | [] =>
    { state := s.setPort l ((s.port l).withCauses { (s.port l).causes with timing := false })
      status := .ok
      body := timingBody s.ftu }
  | _ => refuse s .range []

/-- SET TIMING taken on a link. -/
def takeSetTiming (l : Link) (tag : Byte) (body : List Byte) (s : State) : State :=
  s.serve .setTiming l tag (setTimingAnswer body)

/-- READ TIMING taken on a link. -/
def takeReadTiming (l : Link) (tag : Byte) (body : List Byte) (s : State) : State :=
  s.serve .readTiming l tag (readTimingAnswer l body)

/-- SET_TIMING (R31). -/
def execSetTiming (l : Link) (tag : Byte) (body : List Byte) (s : State) : Host.Outcome State Fault Refusal :=
  .next (takeSetTiming l tag body s)

/-- READ_TIMING (R32). -/
def execReadTiming (l : Link) (tag : Byte) (body : List Byte) (s : State) : Host.Outcome State Fault Refusal :=
  .next (takeReadTiming l tag body s)

end Sys2Proof.Machine
end

