-- ==== Sys2Proof/Machine/Ports.lean ====
section
/-! DEFINITION. Link Ports (chapter 10), the select periods: shifting bits, the checks of a telegram, link errors, hold
timeouts, and power-on reset. -/

namespace Sys2Proof.Machine

/-! ### Shifting (R151, R155) -/

/-- The bits the port drives from place `i` of the period on: the outgoing telegram's, then fill bits 0 (R151). -/
def Port.drive (p : Port) (i n : Nat) : List Bool :=
  (List.range n).map fun j => ((bitsOfBytes p.outgoing).drop i)[j]?.getD false

/-- Clock cycles of a select period, one for each bit clocked in (R151). The buffer empties when the first byte of a
held response is completely clocked out. After a timeout the port drives 1 and discards what comes in (R155). The rows
carry the bits in groups (DESIGN CHOICE, notes/assumptions/9.md). -/
def Port.shift (p : Port) (bits : List Bool) : Port :=
  if p.timedOut then { p with bitsOut := p.bitsOut ++ List.replicate bits.length true }
  else
    let i := p.bitsIn.length
    { p with
      bitsIn := p.bitsIn ++ bits
      bitsOut := p.bitsOut ++ p.drive i bits.length
      buffer := if p.heldOut && decide (i < 8 ∧ 8 ≤ i + bits.length) then none else p.buffer }

/-- A select period begins: the hold limit is read, the receive state cleared, and what goes out is fixed (R151). -/
def Port.start (hold : Nat) (p : Port) : Port :=
  { p with
    selected := true
    hold := hold
    slots := 0
    timedOut := false
    bitsIn := []
    outgoing := responseTelegram (p.buffer.getD emptyResponse)
    heldOut := p.buffer.isSome
    bitsOut := [] }

/-- The port at the release of its period: select released and the receive state cleared; what was driven stays to
be seen. -/
def Port.finish (p : Port) : Port :=
  { p with selected := false, slots := 0, timedOut := false, bitsIn := [], outgoing := [], heldOut := false }

/-! ### The outcome of a period (R154) -/

/-- The outcome of a select period. -/
inductive PeriodOutcome where
  | nothing
  | linkError (status : Status)
  | request (kind : ReqKind) (tag : Byte) (body : List Byte)
  deriving DecidableEq, Repr

/-- Lines 5 to 9 of R154, for complete bytes that reach the length byte. -/
def telegramOutcome (kind tag len : Byte) (rest : List Byte) : PeriodOutcome :=
  if 60 < len.toNat then .linkError .badLength
  else if rest.length < len.toNat + 1 then .linkError .framing
  else if byteSum (kind :: tag :: len :: rest.take (len.toNat + 1)) ≠ 0 then .linkError .badChecksum
  else match ReqKind.ofCode kind.toNat with
    | some k => .request k tag (rest.take len.toNat)
    | none => .linkError .unknownKind

/-- The outcome of a period, the first line of R154's table that applies. -/
def Port.outcome (p : Port) : PeriodOutcome :=
  if p.timedOut then .linkError .holdTimeout
  else match completeBytes p.bitsIn with
    | [] => .nothing
    | b0 :: more =>
      if p.bitsIn.length % 8 ≠ 0 then .linkError .framing
      else match more with
        | b1 :: b2 :: rest => telegramOutcome b0 b1 b2 rest
        | _ => .linkError .framing

/-! ### Link errors (R156) -/

/-- The counters with that of a status raised by 1, stopping at 255 (R156). -/
def Errors.raise (e : Errors) (st : Status) : Errors :=
  match st with
  | .framing => { e with framing := satSucc 255 e.framing }
  | .badLength => { e with badLength := satSucc 255 e.badLength }
  | .badChecksum => { e with badChecksum := satSucc 255 e.badChecksum }
  | .unknownKind => { e with unknownKind := satSucc 255 e.unknownKind }
  | .holdTimeout => { e with holdTimeout := satSucc 255 e.holdTimeout }
  | _ => e

/-- The error response: kind and tag echo from the first and second complete bytes clocked in, 0 for those that were
not (R156). -/
def Port.errorResponse (p : Port) (st : Status) : Response where
  status := st
  tag := (completeBytes p.bitsIn)[1]?.getD 0
  kind := (completeBytes p.bitsIn)[0]?.getD 0
  body := []

/-- A link error: the counter rises, LINK FAULT becomes pending and the error response replaces the buffer (R156). -/
def Port.linkError (p : Port) (st : Status) : Port :=
  { p with
    errors := p.errors.raise st
    causes := { p.causes with linkFault := true }
    buffer := some (p.errorResponse st) }

/-! ### Handing a request to its owner (R152) -/

/-- A request is taken on a link. -/
def takeRequest (kind : ReqKind) (l : Link) (tag : Byte) (body : List Byte) (s : State) : State :=
  match kind with
  | .fetch => takeFetch l tag body s
  | .readPolicy => takeReadPolicy l tag body s
  | .setPolicy => takeSetPolicy l tag body s
  | .setBarMask => takeSetBarMask l tag body s
  | .restartScheduling => takeRestartScheduling l tag body s
  | .setTiming => takeSetTiming l tag body s
  | .readTiming => takeReadTiming l tag body s
  | .admitSubscriber => takeAdmit l tag body s
  | .setTerms => takeSetTerms l tag body s
  | .suspend => takeSuspend l tag body s
  | .resume => takeResume l tag body s
  | .remove => takeRemove l tag body s
  | .readSubscriber => takeReadSubscriber l tag body s
  | .bindSector => takeBindSector l tag body s
  | .releaseSector => takeReleaseSector l tag body s
  | .pinSector => takePinSector l tag body s
  | .attach => takeAttach l tag body s
  | .detach => takeDetach l tag body s
  | .readSectors => takeReadSectors l tag body s
  | .demandBatch => takeDemandBatch l tag body s
  | .readGrants => takeReadGrants l tag body s
  | .readPlanSummary => takeReadPlanSummary l tag body s
  | .move => takeMove l tag body s
  | .readNotice => takeReadNotice l tag body s
  | .claim => takeClaim l tag body s
  | .cancelMove => takeCancelMove l tag body s
  | .setLinkRights => takeSetLinkRights l tag body s
  | .readAttention => takeReadAttention l tag body s
  | .setAttentionMask => takeSetAttentionMask l tag body s
  | .readLinkStatus => takeReadLinkStatus l tag body s

/-! ### The rows -/

/-- The select line of a link is asserted: a select period begins, unless one is in progress (R151). -/
def State.assertSelect (s : State) (l : Link) : State :=
  if (s.port l).selected then s else s.setPort l ((s.port l).start s.policy.hold)

/-- Bits are clocked on a link while its select line is asserted; nothing is shifted while it is released. -/
def State.clockLink (s : State) (l : Link) (bits : List Bool) : State :=
  if (s.port l).selected then s.setPort l ((s.port l).shift bits) else s

/-- The select line of a link is released: the outcome of the period is decided and acted on (R154, R157). Nothing
happens when the line is already released. -/
def State.releaseSelect (s : State) (l : Link) : State :=
  let p := s.port l
  if p.selected then
    match p.outcome with
    | .nothing => s.setPort l p.finish
    | .linkError st => s.setPort l (p.linkError st).finish
    | .request kind tag body => takeRequest kind l tag body (s.setPort l p.finish)
  else s

/-- SELECT_ASSERT (R151), with the bits clocked on the link up to its next command. -/
def execSelectAssert (l : Link) (bits : List Bool) (s : State) : Host.Outcome State Fault Refusal :=
  .next ((s.assertSelect l).clockLink l bits)

/-- SELECT_RELEASE (R154), after the bits clocked on the link since its last command. -/
def execSelectRelease (l : Link) (bits : List Bool) (s : State) : Host.Outcome State Fault Refusal :=
  .next ((s.clockLink l bits).releaseSelect l)

/-- HOLD_TIMEOUT (R155): after the bits clocked on the link since its last command, the quiet edges up to and
including the slot boundary at which the link's count reaches the hold limit plus one. With no select period in
progress, or one that has timed out already, the event does not come and no edge passes. -/
def execHoldTimeout (l : Link) (bits : List Bool) (s : State) : Host.Outcome State Fault Refusal :=
  let t := s.clockLink l bits
  let p := t.port l
  .next (if p.selected && !p.timedOut then State.toNextSlot^[p.hold + 1 - p.slots] t else t)

/-- A port after power-on reset: a select line found asserted starts a select period at that moment (R165). -/
def resetPort (selected : Bool) : Port :=
  if selected then Port.reset.start Policy.reset.hold else Port.reset

/-- POWER_ON_RESET: every block at its reset value (R34, R18, R53, R70, R83, R135, R150, R165). The levels of the
power-low and select inputs and the commands that wait are the outside world's. -/
def execPowerOnReset (s : State) : Host.Outcome State Fault Refusal :=
  .next { State.reset with
    ports := PerLink.of fun l => resetPort (s.port l).selected
    powerLow := s.powerLow
    pending := s.pending }

end Sys2Proof.Machine
end

