-- ==== Sys2Proof/Machine/Dispatch.lean ====
section
/-! DEFINITION. The commands and their meanings: one arm for each constructor of Instr. -/

namespace Sys2Proof.Machine

def exec (i : Instr) (s : State) : Host.Outcome State Fault Refusal :=
  match i with
  | .powerOnReset => Sys2Proof.Machine.execPowerOnReset s
  | .selectAssert l bits => Sys2Proof.Machine.execSelectAssert l bits s
  | .selectRelease l bits => Sys2Proof.Machine.execSelectRelease l bits s
  | .holdTimeout l bits => Sys2Proof.Machine.execHoldTimeout l bits s
  | .powerLowLineChange asserted => Sys2Proof.Machine.execPowerLowLineChange asserted s
  | .referenceClockEdge level => Sys2Proof.Machine.execReferenceClockEdge level s
  | .pulse => Sys2Proof.Machine.execPulse s
  | .missedExpiry => Sys2Proof.Machine.execMissedExpiry s
  | .frameStart => Sys2Proof.Machine.execFrameStart s
  | .moveExpiry record => Sys2Proof.Machine.execMoveExpiry record s
  | .slotBoundary => Sys2Proof.Machine.execSlotBoundary s
  | .buildCompletion => Sys2Proof.Machine.execBuildCompletion s
  | .fetch l tag body => Sys2Proof.Machine.execFetch l tag body s
  | .setPolicy l tag body => Sys2Proof.Machine.execSetPolicy l tag body s
  | .readPolicy l tag body => Sys2Proof.Machine.execReadPolicy l tag body s
  | .setBarMask l tag body => Sys2Proof.Machine.execSetBarMask l tag body s
  | .restartScheduling l tag body => Sys2Proof.Machine.execRestartScheduling l tag body s
  | .setTiming l tag body => Sys2Proof.Machine.execSetTiming l tag body s
  | .readTiming l tag body => Sys2Proof.Machine.execReadTiming l tag body s
  | .admitSubscriber l tag body => Sys2Proof.Machine.execAdmit l tag body s
  | .setTerms l tag body => Sys2Proof.Machine.execSetTerms l tag body s
  | .suspend l tag body => Sys2Proof.Machine.execSuspend l tag body s
  | .resume l tag body => Sys2Proof.Machine.execResume l tag body s
  | .remove l tag body => Sys2Proof.Machine.execRemove l tag body s
  | .readSubscriber l tag body => Sys2Proof.Machine.execReadSubscriber l tag body s
  | .bindSector l tag body => Sys2Proof.Machine.execBindSector l tag body s
  | .releaseSector l tag body => Sys2Proof.Machine.execReleaseSector l tag body s
  | .pinSector l tag body => Sys2Proof.Machine.execPinSector l tag body s
  | .attach l tag body => Sys2Proof.Machine.execAttach l tag body s
  | .detach l tag body => Sys2Proof.Machine.execDetach l tag body s
  | .readSectors l tag body => Sys2Proof.Machine.execReadSectors l tag body s
  | .demandBatch l tag body => Sys2Proof.Machine.execDemandBatch l tag body s
  | .readGrants l tag body => Sys2Proof.Machine.execReadGrants l tag body s
  | .readPlanSummary l tag body => Sys2Proof.Machine.execReadPlanSummary l tag body s
  | .move l tag body => Sys2Proof.Machine.execMove l tag body s
  | .readNotice l tag body => Sys2Proof.Machine.execReadNotice l tag body s
  | .claim l tag body => Sys2Proof.Machine.execClaim l tag body s
  | .cancelMove l tag body => Sys2Proof.Machine.execCancelMove l tag body s
  | .setLinkRights l tag body => Sys2Proof.Machine.execSetLinkRights l tag body s
  | .readAttention l tag body => Sys2Proof.Machine.execReadAttention l tag body s
  | .setAttentionMask l tag body => Sys2Proof.Machine.execSetAttentionMask l tag body s
  | .readLinkStatus l tag body => Sys2Proof.Machine.execReadLinkStatus l tag body s

end Sys2Proof.Machine
end

