-- ==== Sys2Proof/Safety.lean ====
section
/-! DEFINITION. What a safe state of the part is: the laws the manual states of the device, each as a predicate on the
state that every step keeps, and the laws of the plan as predicates on a build's working state. The words in which the
statements about commands are written stand here too. -/

namespace Sys2Proof.Safety

open Sys2Proof.Machine

/-! ### Policy and rights -/

/-- A window pair as SET POLICY lets it be (R8). -/
def windowOk (v : Window) : Prop := v.o < v.w ∧ v.w ≤ 15

/-- Every policy parameter lies in its range (R8). -/
def PolicyInRange (s : State) : Prop :=
  let p := s.policy
  (1 ≤ p.n ∧ p.n ≤ 3) ∧ (4 ≤ p.d ∧ p.d ≤ 12) ∧ windowOk p.window ∧ (∀ v ∈ p.pendingWindow, windowOk v) ∧
  p.g ≤ 20 ∧ (1 ≤ p.umin ∧ p.umin ≤ 20) ∧ p.z ≤ 1023 ∧ p.e ≤ 1023 ∧ p.bn ≤ 216 ∧ p.bl ≤ 216 ∧
  (1 ≤ p.m ∧ p.m ≤ 15) ∧ (1 ≤ p.hlim ∧ p.hlim ≤ 63) ∧ (1 ≤ p.alim ∧ p.alim ≤ 255) ∧ (1 ≤ p.hold ∧ p.hold ≤ 16)

/-- At least one link holds the POLICY right (R160). -/
def SomePolicyHolder (s : State) : Prop := ∃ l, (s.rights l).policy = true

/-! ### Frame timing -/

/-- A timing set as SET TIMING lets it be (R31). -/
def timingOk (v : TimingSet) : Prop :=
  (16384 ≤ v.p ∧ v.p ≤ 1048575) ∧ v.t ≤ 4095 ∧ (1 ≤ v.k ∧ v.k ≤ 15)

/-- The FTU's values lie in their ranges, H and the good-run count fit the timing state, and the count lies below the
edge at which the frame must end (R22 to R31). -/
def TimingInRange (s : State) : Prop :=
  let f := s.ftu
  timingOk f.inForce ∧ (∀ v ∈ f.pendingSet, timingOk v) ∧ f.frame < 4096 ∧ f.h ≤ 4095 ∧ f.goodRun ≤ 15 ∧
  f.interval ≤ 1048575 ∧ f.running ≤ 1048575 ∧ f.glitch ≤ 65535 ∧ f.missed ≤ 65535 ∧ f.stray ≤ 65535 ∧
  (f.fresh = true → f.state = .free ∧ f.count = 0) ∧
  (f.state = .free → f.h = 0 ∧ f.count < f.inForce.p) ∧
  (f.state = .locked → f.h = 0 ∧ f.goodRun = 0 ∧ f.count < f.inForce.p + f.inForce.t) ∧
  (f.state = .holdover → 1 ≤ f.h ∧ f.count < f.inForce.p)

/-- The demand window is open exactly from the boundary of slot O to the boundary of slot W of a frame (R72). -/
def WindowFollowsSlots (s : State) : Prop :=
  TimingInRange s ∧ windowOk s.policy.window ∧ (∀ v ∈ s.policy.pendingWindow, windowOk v) ∧
  (s.windowOpen = true ↔
    s.ftu.fresh = false ∧ slotCount s.ftu.inForce.p s.policy.window.o ≤ s.ftu.count ∧
      s.ftu.count < slotCount s.ftu.inForce.p s.policy.window.w)

/-- A build in flight started at the slot-W boundary of the present frame, has had as many edges as its age says, and
at most 4,096 (R85, R102). -/
def BuildFollowsWindow (s : State) : Prop :=
  TimingInRange s ∧ windowOk s.policy.window ∧ (∀ v ∈ s.policy.pendingWindow, windowOk v) ∧
  ∀ b ∈ s.builder,
    s.ftu.fresh = false ∧ slotCount s.ftu.inForce.p s.policy.window.w + b.age = s.ftu.count ∧ b.age ≤ buildLimit

/-- The frame numbers agree: LIVE carries the frame that runs, and NEXT and a build in flight the frame after it
(R85, R123). -/
def PlanFramesAgree (s : State) : Prop :=
  s.live.frame = s.ftu.frame ∧ (∀ n ∈ s.next, n.frame = (s.ftu.frame + 1) % 4096) ∧
  (∀ b ∈ s.builder, b.snapshot.frame = (s.ftu.frame + 1) % 4096)

/-! ### Subscriber records -/

/-- No two records in use hold the same id, and none holds id 0 (R44). -/
def IdsUnique (s : State) : Prop :=
  (∀ i o, s.occupant i = some o → o.id ≠ 0) ∧
  ∀ i j oi oj, s.occupant i = some oi → s.occupant j = some oj → oi.id = oj.id → i = j

/-- Each credit of every record lies between 0 and 4 times the record's weight (R41). -/
def CreditsBounded (s : State) : Prop :=
  ∀ i o, s.occupant i = some o → o.creditDL ≤ 4 * o.terms.weight ∧ o.creditUL ≤ 4 * o.terms.weight

/-- The terms of a record lie in their ranges (R38). -/
def termsOk (t : Terms) : Prop :=
  (1 ≤ t.weight ∧ t.weight ≤ 15) ∧ t.resDL ≤ 4 ∧ t.resUL ≤ 4 ∧ (1 ≤ t.cap ∧ t.cap ≤ 32)

/-- The fields of every record lie in the ranges of R35's table. E and Hlim are here because a report and a MOVE copy
them into a record. -/
def RecordsInRange (s : State) : Prop :=
  s.policy.e ≤ 1023 ∧ (1 ≤ s.policy.hlim ∧ s.policy.hlim ≤ 63) ∧
  (∀ i, (s.record i).generation ≤ 255) ∧
  ∀ i o, s.occupant i = some o →
    (1 ≤ o.id ∧ o.id ≤ 16777215) ∧ termsOk o.terms ∧ o.demandDL ≤ 65535 ∧ o.demandUL ≤ 65535 ∧ o.cls ≤ 7 ∧
    o.ta ≤ 1023 ∧ o.age ≤ 255 ∧ (∀ m ∈ o.attachment.move?, 1 ≤ m.2 ∧ m.2 ≤ 63)

/-! ### Sectors, maps and rings -/

/-- Sectors 0 to N−1 are in use and sectors N to 2 are DISABLED (R13). -/
def SectorsFollowN (s : State) : Prop :=
  ∀ k, (s.sector k).state = .disabled ↔ s.policy.n ≤ sectorNo k

/-- Each link is bound to at most one sector (R57). -/
def BindingsUnique (s : State) : Prop :=
  ∀ k k' l, (s.sector k).state.link? = some l → (s.sector k').state.link? = some l → k = k'

/-- The map of a sector and the records agree (R61): an entry refers to a record ACTIVE or MOVING with that home, handle
and generation, and each such record has an entry; no handle has two entries. -/
def MapAgrees (s : State) (k : SectorId) : Prop :=
  (∀ e ∈ (s.sector k).map, ∃ o, s.occupant e.index = some o ∧ o.attachment.place? = some (k, e.handle) ∧
    (s.record e.index).generation = e.generation ∧ 1 ≤ e.handle ∧ e.handle ≤ 127) ∧
  (∀ i o h, s.occupant i = some o → o.attachment.place? = some (k, h) →
    ∃ e ∈ (s.sector k).map, e.index = i ∧ e.handle = h) ∧
  ((s.sector k).map.map MapEntry.handle).Nodup

/-- A sector's ring holds exactly the records bound in its map, each once, and its heads stand on records of the ring, or
are absent exactly when the ring is empty (R66). -/
def RingAgrees (s : State) (k : SectorId) : Prop :=
  (s.sector k).ring.Nodup ∧
  (∀ i, i ∈ (s.sector k).ring ↔ ∃ e ∈ (s.sector k).map, e.index = i) ∧
  (∀ dir, ((s.sector k).head dir = none ↔ (s.sector k).ring = []) ∧
    ∀ i ∈ (s.sector k).head dir, i ∈ (s.sector k).ring)

/-- The handle maps, the rings and the records agree at all times (R61, R66). DISABLED sectors are those from N on and
hold no entry (R13): no sector is disabled while a record has it as its home. -/
def MapsAndRingsAgree (s : State) : Prop :=
  SectorsFollowN s ∧ (∀ k, (s.sector k).state = .disabled → (s.sector k).map = []) ∧ (∀ k, MapAgrees s k) ∧
  ∀ k, RingAgrees s k

/-! ### Moves -/

/-- A queued notice refers to a MOVING record whose target is the queue's sector, and shows its frames remaining
(R137). -/
def noticeOk (s : State) (t : SectorId) (n : Notice) : Prop :=
  ∃ o h, s.occupant n.index = some o ∧ o.attachment = .moving n.source h t n.frames ∧ o.id = n.id ∧
    (s.record n.index).generation = n.generation

/-- Each queue holds at most 8 notices, every notice refers to a MOVING record whose target is the queue's sector, no
record has two notices, and only a PRESENT sector has any (R137). -/
def NoticesAgree (s : State) : Prop :=
  SectorsFollowN s ∧
  ∀ t, (s.queue t).length ≤ 8 ∧ (∀ n ∈ s.queue t, noticeOk s t n) ∧ ((s.queue t).map Notice.index).Nodup ∧
    (s.queue t ≠ [] → (s.sector t).state.isPresent = true)

/-- HANDOVER is pending on a link exactly while the queue of the link's bound sector holds a notice (R140). -/
def HandoverFollowsQueues (s : State) : Prop :=
  SectorsFollowN s ∧ BindingsUnique s ∧ (∀ t, s.queue t ≠ [] → (s.sector t).state.isPresent = true) ∧
  ∀ l, (s.port l).causes.handover = true ↔ ∃ k, (s.sector k).state.link? = some l ∧ s.queue k ≠ []

/-! ### The laws of the plan, on the assignments of a build (chapters 6 and 7) -/

/-- Each tile is assigned in each sector to at most one record (R111). -/
def OneAssigneePerTile (occ : List Assignment) : Prop :=
  (occ.map fun a => (a.sector, a.tile)).Nodup

/-- No tile is assigned in two adjacent sectors when either assignee is outer (R112). -/
def ReuseRespected (snap : Snapshot) (occ : List Assignment) : Prop :=
  ∀ a ∈ occ, ∀ b ∈ occ, a.tile = b.tile → snap.adjacency.between a.sector b.sector = true →
    a.outer = false ∧ b.outer = false

/-- No tile barred for a sector at the snapshot is assigned in it, and an edge tile is assigned only to a record whose
usable count is at least Umin (R116). -/
def BarsAndEdgeRespected (snap : Snapshot) (occ : List Assignment) : Prop :=
  ∀ a ∈ occ, (snap.mask a.sector).getLsbD a.tile = false ∧
    ∃ e ∈ snap.entries, e.index = a.index ∧ e.home = a.sector ∧ (90 ≤ a.tile → snap.umin ≤ usableOf snap e)

/-- The number of downlink assignments does not exceed the budget, and is the count the build keeps (R98). -/
def BudgetRespected (snap : Snapshot) (w : Work) : Prop :=
  w.dlCount ≤ snap.budget ∧ w.dlCount = w.occupancy.countP fun a => decide (a.tile < 6 * snap.d)

/-- A record has at most one grant in the direction; each grant holds one tile for each placement its passes made, in
ascending order, at most the need computed at the snapshot and at most the cap (R90, R100, R120). -/
def GrantsWithinNeed (v : DirWork) (dir : Dir) : Prop :=
  (v.grants.map fun g => g.entry.index).Nodup ∧
  ∀ g ∈ v.grants, g.tiles.length = g.nR + g.nS + g.nL ∧ 1 ≤ g.tiles.length ∧
    g.tiles.Pairwise (· < ·) ∧ g.tiles.length ≤ needOf g.entry dir ∧ g.tiles.length ≤ g.entry.terms.cap

/-! ### The passes of a build, as relations (chapters 6 and 7)

A build's position is left out of these: it is bookkeeping that no request reads (R84, log entry 5). -/

/-- A snapshot as a build start takes it: D in its range, distinct sectors, each record in one place of one ring, each
entry in its record's place, and in each direction a head on a record of the ring, or none when the ring is empty (R66,
R86 to R89). -/
def SnapshotOk (snap : Snapshot) : Prop :=
  (4 ≤ snap.d ∧ snap.d ≤ 12) ∧ (snap.sectors.map SnapSector.id).Nodup ∧
  (snap.sectors.flatMap fun v => v.ring.map SnapRecord.index).Nodup ∧
  ∀ v ∈ snap.sectors,
    (∀ r ∈ v.ring, ∀ e ∈ r.entry, e.index = r.index ∧ e.generation = r.generation ∧ e.home = v.id) ∧
    ∀ dir, (v.head dir = none ↔ v.ring = []) ∧ ∀ i ∈ v.head dir, ∃ r ∈ v.ring, r.index = i

/-- A build in flight stands at its start, with a snapshot as a build start takes it, until it completes (R84, R89; log
entry 5). -/
def BuildAtItsStart (s : State) : Prop :=
  PolicyInRange s ∧ MapsAndRingsAgree s ∧
  ∀ b ∈ s.builder, SnapshotOk b.snapshot ∧ b.work = Work.start b.snapshot

/-- `es` are the records that take part, in the order of a direction's walk: the sectors in their precedence, each ring
from its head on and round to the record before it; a sector with no head is passed over (R91). -/
def IsWalk (snap : Snapshot) (dir : Dir) (es : List Entry) : Prop :=
  ∃ f : SnapSector → List Entry, es = snap.sectors.flatMap f ∧
    ∀ v ∈ snap.sectors, (v.head dir = none → f v = []) ∧
      ∀ a r b, v.ring = a ++ r :: b → v.head dir = some r.index → f v = (r :: b ++ a).filterMap SnapRecord.entry

/-- Tile `t` is of the direction and meets the four conditions of the placement scan for an entry (R110, R111). -/
def Fits (snap : Snapshot) (dir : Dir) (occ : List Assignment) (e : Entry) (t : Nat) : Prop :=
  (dir = .dl → t < 6 * snap.d) ∧ (dir = .ul → 6 * snap.d ≤ t ∧ t < 96) ∧
  (∀ a ∈ occ, a.sector = e.home → a.tile ≠ t) ∧
  (∀ v ∈ snap.sectors, v.id = e.home → v.mask.getLsbD t = false) ∧
  (∀ a ∈ occ, a.tile = t → snap.adjacency.between e.home a.sector = true → e.outer = false ∧ a.outer = false) ∧
  (90 ≤ t → snap.umin ≤ usableOf snap e)

/-- The budget refuses every further attempt of the direction: the downlink's once the count has reached it (R98). -/
def BudgetSpent (snap : Snapshot) (dir : Dir) (w : Work) : Prop := dir = .dl ∧ snap.budget ≤ w.dlCount

/-- `w'` is `w` but for the position. -/
def SameWork (w w' : Work) : Prop := w' = { w with position := w'.position }

/-- `w'` is `w` with only the working fields of one direction changed, to `v`. -/
def OnlyDir (dir : Dir) (w : Work) (v : DirWork) (w' : Work) : Prop :=
  w'.at dir = v ∧ (∀ other, other ≠ dir → w'.at other = w.at other) ∧ w'.occupancy = w.occupancy ∧
  w'.dlCount = w.dlCount

/-- A grant with one more tile, counted under its pass (R100). -/
def grantWith (pass : Pass) (t : Nat) (g : WorkGrant) : WorkGrant :=
  { g with
    tiles := g.tiles ++ [t]
    nR := g.nR + if pass = .r then 1 else 0
    nS := g.nS + if pass = .s then 1 else 0
    nL := g.nL + if pass = .l then 1 else 0 }

/-- `gs'` are the grants `gs` of a direction after tile `t` was placed for an entry: it joins the record's grant, or starts
one after those already started (R100, R124). -/
def GrantsGrown (pass : Pass) (e : Entry) (t : Nat) (gs gs' : List WorkGrant) : Prop :=
  ((∃ g ∈ gs, g.entry.index = e.index) →
    gs' = gs.map fun g => if g.entry.index = e.index then grantWith pass t g else g) ∧
  ((∀ g ∈ gs, g.entry.index ≠ e.index) →
    gs' = gs ++ [grantWith pass t { entry := e, tiles := [], nR := 0, nS := 0, nL := 0 }])

/-- An attempt of a pass placed the lowest tile that fits, and `w'` is the working state after it: the tile assigned, the
downlink's count and the grant grown, need one lower, and in Pass S the credit one lower and the record kept as the
sector's last recipient (R92, R96, R98, R100). -/
def AttemptPlaced (snap : Snapshot) (dir : Dir) (pass : Pass) (e : Entry) (w w' : Work) : Prop :=
  ∃ t, Fits snap dir w.occupancy e t ∧ (∀ t', t' < t → ¬Fits snap dir w.occupancy e t') ∧
    w'.occupancy = w.occupancy ++ [{ sector := e.home, tile := t, index := e.index, outer := e.outer }] ∧
    w'.dlCount = (if dir = .dl then w.dlCount + 1 else w.dlCount) ∧
    (∀ other, other ≠ dir → w'.at other = w.at other) ∧
    (w'.at dir).records = ((w.at dir).records.map fun r =>
      if r.index = e.index then
        { r with need := r.need - 1, credit := if pass = .s then r.credit - 1 else r.credit }
      else r) ∧
    GrantsGrown pass e t (w.at dir).grants (w'.at dir).grants ∧
    (w'.at dir).lastS = (if pass = .s then (w.at dir).lastS.set e.home (some e.index) else (w.at dir).lastS) ∧
    (w'.at dir).heads = (w.at dir).heads

/-- No tile fits, and `w'` is the working state with the record blocked in the direction (R92, R93). -/
def AttemptBlocked (snap : Snapshot) (dir : Dir) (e : Entry) (w w' : Work) : Prop :=
  (∀ t, ¬Fits snap dir w.occupancy e t) ∧
  OnlyDir dir w { w.at dir with
    records := (w.at dir).records.map fun r => if r.index = e.index then { r with blocked := true } else r } w'

/-- A record's turn in Pass R: up to `n` attempts one after another, until one is refused by the scan or the budget (R94). -/
inductive ReserveTurn (snap : Snapshot) (dir : Dir) (e : Entry) : Nat → Work → Work → Prop
  | done {w w' : Work} : SameWork w w' → ReserveTurn snap dir e 0 w w'
  | spent {n : Nat} {w w' : Work} : BudgetSpent snap dir w → SameWork w w' → ReserveTurn snap dir e (n + 1) w w'
  | blocked {n : Nat} {w w' : Work} :
      ¬BudgetSpent snap dir w → AttemptBlocked snap dir e w w' → ReserveTurn snap dir e (n + 1) w w'
  | placed {n : Nat} {w w' w'' : Work} :
      ¬BudgetSpent snap dir w → AttemptPlaced snap dir .r e w w' → ReserveTurn snap dir e n w' w'' →
      ReserveTurn snap dir e (n + 1) w w''

/-- Whether a record makes an attempt at its turn in a round of Pass S or Pass L (R96, R97). -/
def TakesTurn (pass : Pass) (r : WorkRecord) : Prop := 0 < r.need ∧ r.blocked = false ∧ (pass = .s → 0 < r.credit)

/-- A record's turn, the budget not being spent (R94, R96, R97). -/
inductive Turn (snap : Snapshot) (dir : Dir) : Pass → Entry → Work → Work → Prop
  | reserve {e : Entry} {w w' : Work} :
      ReserveTurn snap dir e (min (e.reservation dir) ((w.at dir).record e.index).need) w w' →
      Turn snap dir .r e w w'
  | passedOver {pass : Pass} {e : Entry} {w w' : Work} :
      pass ≠ .r → ¬TakesTurn pass ((w.at dir).record e.index) → SameWork w w' → Turn snap dir pass e w w'
  | blocked {pass : Pass} {e : Entry} {w w' : Work} :
      pass ≠ .r → TakesTurn pass ((w.at dir).record e.index) → AttemptBlocked snap dir e w w' →
      Turn snap dir pass e w w'
  | placed {pass : Pass} {e : Entry} {w w' : Work} :
      pass ≠ .r → TakesTurn pass ((w.at dir).record e.index) → AttemptPlaced snap dir pass e w w' →
      Turn snap dir pass e w w'

/-- One walk of a pass: the turns in order, until the budget is spent and the pass ends at once (R91, R98). -/
inductive Walked (snap : Snapshot) (dir : Dir) (pass : Pass) : List Entry → Work → Work → Prop
  | done {w w' : Work} : SameWork w w' → Walked snap dir pass [] w w'
  | spent {e : Entry} {es : List Entry} {w w' : Work} :
      BudgetSpent snap dir w → SameWork w w' → Walked snap dir pass (e :: es) w w'
  | turn {e : Entry} {es : List Entry} {w w' w'' : Work} :
      ¬BudgetSpent snap dir w → Turn snap dir pass e w w' → Walked snap dir pass es w' w'' →
      Walked snap dir pass (e :: es) w w''

/-- The rounds of Pass S or Pass L, each a walk: the pass ends after a round that places no tile or spends the budget (R96,
R97, R98). -/
inductive Rounds (snap : Snapshot) (dir : Dir) (pass : Pass) (es : List Entry) : Work → Work → Prop
  | last {w w' : Work} :
      Walked snap dir pass es w w' → (w'.occupancy = w.occupancy ∨ BudgetSpent snap dir w') →
      Rounds snap dir pass es w w'
  | more {w w' w'' : Work} :
      Walked snap dir pass es w w' → w'.occupancy ≠ w.occupancy → ¬BudgetSpent snap dir w' →
      Rounds snap dir pass es w' w'' → Rounds snap dir pass es w w''

/-- `w'` is `w` with the working fields of every record that takes part put through `f` in a direction, and nothing else
changed. -/
def EachRecord (snap : Snapshot) (dir : Dir) (f : Entry → WorkRecord → WorkRecord) (w w' : Work) : Prop :=
  (w'.at dir).records.map WorkRecord.index = (w.at dir).records.map WorkRecord.index ∧
  (∀ e ∈ snap.entries, (w'.at dir).record e.index = f e ((w.at dir).record e.index)) ∧
  OnlyDir dir w { w.at dir with records := (w'.at dir).records } w'

/-- `w'` is `w` with a working head in each sector in which Pass S placed a tile: the successor, in the snapshot ring, of the
record that took the last one; the other sectors have none (R99). -/
def HeadsFixed (snap : Snapshot) (dir : Dir) (w w' : Work) : Prop :=
  OnlyDir dir w { w.at dir with heads := (w'.at dir).heads } w' ∧
  ∀ k, ((w.at dir).lastS.get k = none → (w'.at dir).heads.get k = none) ∧
    ∀ i, (w.at dir).lastS.get k = some i → ∃ v ∈ snap.sectors, v.id = k ∧ ∃ a x b, v.ring = a ++ x :: b ∧ x.index = i ∧
      (w'.at dir).heads.get k = ((b ++ a ++ [x]).head?).map fun r => { index := r.index, generation := r.generation }

/-- One direction of a build: need, Pass R, the credit update, Pass S, Pass L and the working heads, in this order (R91). -/
def DirectionRun (snap : Snapshot) (dir : Dir) (w w' : Work) : Prop :=
  ∃ es w1 w2 w3 w4 w5, IsWalk snap dir es ∧
    EachRecord snap dir (fun e r => { r with need := needOf e dir }) w w1 ∧
    Walked snap dir .r es w1 w2 ∧
    EachRecord snap dir (fun e r => { r with
      credit := if 0 < r.need then min (r.credit + e.terms.weight) (4 * e.terms.weight) else 0 }) w2 w3 ∧
    Rounds snap dir .s es w3 w4 ∧ Rounds snap dir .l es w4 w5 ∧ HeadsFixed snap dir w5 w'

/-- The bytes that a tile carries for an entry, trimmed in the edge slot (R117). -/
def bytesOn (snap : Snapshot) (e : Entry) (t : Nat) : Nat :=
  if t < 90 then classBytes e.cls else classBytes e.cls * usableOf snap e / 20

/-- A grant as the plan record holds it before the test of R103, from the working one (R100, R118). -/
def publishedGrant (snap : Snapshot) (dir : Dir) (g : WorkGrant) : Grant where
  index := g.entry.index
  generation := g.entry.generation
  handle := g.entry.handle
  dir := dir
  tiles := g.tiles
  nR := g.nR
  nS := g.nS
  nL := g.nL
  bytes := (g.tiles.map (bytesOn snap g.entry)).sum
  trimmed := decide ((∃ t ∈ g.tiles, 90 ≤ t) ∧ usableOf snap g.entry < 20)
  void := false

/-- The summary of a sector in a direction counts what the sector's grants `own` of the direction hold, and what its
records that take part, `mine`, were left without (R101). -/
def SummaryCounts (dir : Dir) (v : DirWork) (own : List Grant) (mine : List Entry) (u : Summary) : Prop :=
  u.tiles = (own.map fun g => g.tiles.length).sum ∧ u.served = own.length ∧
  u.unmet = (mine.map fun e =>
    needOf e dir - ((own.filter fun g => decide (g.index = e.index)).map fun g => g.tiles.length).sum).sum ∧
  u.blocked = mine.countP fun e => (v.record e.index).blocked

/-! ### The words of the statements about commands -/

/-- A response to a request: its status, the echoes of tag and kind, and its body (R152). -/
def reply (kind : ReqKind) (tag : Byte) (status : Status) (body : List Byte) : Response where
  status := status
  tag := tag
  kind := BitVec.ofNat 8 kind.code
  body := body

/-- A link is bound to a sector and to no other. -/
def BoundTo (s : State) (l : Link) (k : SectorId) : Prop :=
  (s.sector k).state.link? = some l ∧ ∀ j, (s.sector j).state.link? = some l → j = k

/-- A link is bound to no sector. -/
def Unbound (s : State) (l : Link) : Prop := ∀ k, (s.sector k).state.link? ≠ some l

/-- A record is in use with this occupant, and no other record in use holds the occupant's id. -/
def Holds (s : State) (i : RecIdx) (o : Occupant) : Prop :=
  s.occupant i = some o ∧ ∀ j, j ≠ i → ∀ q ∈ s.occupant j, q.id ≠ o.id

/-- No record in use holds an id. -/
def IdUnused (s : State) (id : Nat) : Prop := ∀ j, ∀ q ∈ s.occupant j, q.id ≠ id

/-- The index and generation of a record as two bytes. -/
def recordBytes (s : State) (i : RecIdx) : List Byte :=
  [BitVec.ofNat 8 i.val, BitVec.ofNat 8 (s.record i).generation]

/-- An edge sampled at `level` carries no pulse (R19). -/
def NoPulse (s : State) (level : Bool) : Prop := level = false ∨ s.ftu.sampled = true

/-- The count that the next edge produces starts no frame when the edge carries no pulse (R22, R24). -/
def FrameGoesOn (s : State) : Prop :=
  s.ftu.fresh = false ∧
  (s.ftu.state = .locked → s.ftu.count + 1 < s.ftu.inForce.p + s.ftu.inForce.t) ∧
  (s.ftu.state ≠ .locked → s.ftu.count + 1 < s.ftu.inForce.p)

/-- The build in flight, if there is one, has not had all its edges (R102). -/
def BuildHasTime (s : State) : Prop := ∀ b ∈ s.builder, b.age < buildLimit

/-- The build in flight one edge older. -/
def aged (s : State) : Option Build := s.builder.map fun b => { b with age := b.age + 1 }

/-- The state one edge later when nothing but the counts moves (R19, R29). -/
def counted (s : State) (level : Bool) : State :=
  { s with
    ftu := { s.ftu with
      count := s.ftu.count + 1, running := min (s.ftu.running + 1) 1048575, sampled := level }
    builder := aged s }

/-- The FTU's measurement at an edge that carries no pulse (R19, R29). -/
def quietMeasured (f : Ftu) (level : Bool) : Ftu :=
  { f with sampled := level, running := min (f.running + 1) 1048575 }

/-- The FTU with H one higher in HOLDOVER, stopping at 4,095 (R25). -/
def hRaised (f : Ftu) : Ftu := { f with h := if f.state = .holdover then min (f.h + 1) 4095 else f.h }

/-- The FTU's measurement of a pulse (R29). -/
def pulseMeasured (f : Ftu) : Ftu :=
  { f with
    sampled := true, running := 0, pulseSeen := true,
    interval := if f.pulseSeen then min (f.running + 1) 1048575 else f.interval }

/-- The FTU at a frame start: count 0, the next number, the pending set in force (R19, R31). -/
def frameStarted (f : Ftu) : Ftu :=
  { f with count := 0, frame := (f.frame + 1) % 4096, inForce := f.pendingSet.getD f.inForce, pendingSet := none }

/-- The slots of the running frame whose boundary has not been reached (R20, R21). -/
def slotsAhead (f : Ftu) : List Nat := (List.range' 1 15).filter fun k => decide (f.count < k * f.inForce.p / 16)

/-- The error counters with that of a link error one higher, stopping at 255 (R156). -/
def counterRaised (e : Errors) (st : Status) : Errors where
  framing := if st = .framing then min (e.framing + 1) 255 else e.framing
  badLength := if st = .badLength then min (e.badLength + 1) 255 else e.badLength
  badChecksum := if st = .badChecksum then min (e.badChecksum + 1) 255 else e.badChecksum
  unknownKind := if st = .unknownKind then min (e.unknownKind + 1) 255 else e.unknownKind
  holdTimeout := if st = .holdTimeout then min (e.holdTimeout + 1) 255 else e.holdTimeout

/-- A port at the release of a period that ended in a link error, `bytes` being the complete bytes clocked in (R156). -/
def faulted (p : Port) (bytes : List Byte) (st : Status) : Port :=
  { p.finish with
    errors := counterRaised p.errors st
    causes := { p.causes with linkFault := true }
    buffer := some { status := st, tag := bytes[1]?.getD 0, kind := bytes[0]?.getD 0, body := [] } }

/-- Whether a grant is for a record of an index and a generation (R128). -/
def isFor (i : RecIdx) (generation : Nat) (g : Grant) : Bool :=
  decide (g.index = i) && decide (g.generation = generation)

/-- LIVE with the grants a test picks marked void. -/
def liveVoided (f : SectorId → Grant → Bool) (v : Live) : Live := { v with plan := v.plan.mapPlan (Plan.voidWhere f) }

/-- A BUILT NEXT with the grants a test picks marked void. -/
def nextVoided (f : SectorId → Grant → Bool) (n : Option NextPlan) : Option NextPlan :=
  n.map fun n => { n with plan := n.plan.voidWhere f }

/-- A record still has the generation, the home and the handle that a grant or an entry was made for (R103, R104). -/
def Matches (s : State) (k : SectorId) (i : RecIdx) (generation handle : Nat) : Prop :=
  (s.record i).generation = generation ∧ ∃ o ∈ s.occupant i, o.attachment.place? = some (k, handle)

/-- The test of R103 finds nothing against a grant in a sector's list. -/
def GrantStands (s : State) (k : SectorId) (g : Grant) : Prop :=
  Matches s k g.index g.generation g.handle ∧ ∃ o ∈ s.occupant g.index, o.suspended = false

/-- `u` is `s` with the binding of sector `k` ended: UNBOUND, flag clear; moves to it cancelled and its queue emptied;
SECTOR STATE raised on every link and HANDOVER cleared on the link that held it; everything else as it was (R59). -/
def Released (s : State) (k : SectorId) (u : State) : Prop :=
  u.sector k = { s.sector k with state := .unbound, batchSeen := false } ∧
  (∀ j, j ≠ k → u.sector j = s.sector j) ∧
  (∀ i, (u.record i).generation = (s.record i).generation) ∧
  (∀ i, s.occupant i = none → u.occupant i = none) ∧
  (∀ i o, s.occupant i = some o →
    (∀ h n f, o.attachment = .moving h n k f → u.occupant i = some { o with attachment := .active h n }) ∧
    ((∀ h n f, o.attachment ≠ .moving h n k f) → u.occupant i = some o)) ∧
  u.queue k = [] ∧ (∀ j, j ≠ k → u.queue j = s.queue j) ∧
  (∀ j, u.port j = { s.port j with causes := { (s.port j).causes with
    sectorState := true
    handover := if (s.sector k).state.link? = some j then false else (s.port j).causes.handover } }) ∧
  u = { s with table := u.table, sectors := u.sectors, queues := u.queues, ports := u.ports }

/-- The ports of `u` are those of `s` but for HANDOVER, which the queues of `u` decide on the links that `u` binds to the
sectors whose queues changed (R140). -/
def OnlyHandover (s u : State) : Prop :=
  (∀ j, u.port j = { s.port j with causes := { (s.port j).causes with handover := (u.port j).causes.handover } }) ∧
  ∀ j, (∀ k, (u.sector k).state.link? = some j → u.queue k = s.queue k) →
    (u.port j).causes.handover = (s.port j).causes.handover

/-- The notice of a record is gone from the queue of its move's target, and no other queue changes (R142). -/
def NoticeWithdrawn (s : State) (i : RecIdx) (a : Attachment) (u : State) : Prop :=
  ∀ k, u.queue k =
    if a.movesTo k = true then (s.queue k).filter fun n => decide (n.index ≠ i) else s.queue k

/-- `n` reference clock edges with the frame pulse input sampled released. -/
def quietRun (n : Nat) (s : State) : State := (fun u : State => u.edge false)^[n] s

/-- An item of SET POLICY is refused with a status (R12, R13). -/
def ItemRefused (s : State) (item : Byte × Byte × Byte) (status : Status) : Prop :=
  ((item.1.toNat = 0 ∨ 14 < item.1.toNat) ∧ status = .range) ∨
  (item.1.toNat = 3 ∧ ¬(item.2.1.toNat < item.2.2.toNat ∧ item.2.2.toNat ≤ 15) ∧ status = .range) ∨
  (item.1.toNat = 1 ∧ status = .inUse ∧
    ∃ k, max 1 (min 3 item.2.1.toNat) ≤ sectorNo k ∧ sectorNo k < s.policy.n ∧
      ((s.sector k).state.link? ≠ none ∨ ∃ i o h, s.occupant i = some o ∧ o.attachment.place? = some (k, h)))

/-- The value bytes of the last item of a list that names a parameter (R12: the later item's value stands). -/
def lastItem (ident : Nat) (items : List (Byte × Byte × Byte)) : Option (Byte × Byte) :=
  ((items.filter fun it => decide (it.1.toNat = ident)).getLast?).map Prod.snd

/-- A one-byte parameter after a list of items. -/
def picked8 (ident lo hi old : Nat) (items : List (Byte × Byte × Byte)) : Nat :=
  match lastItem ident items with
  | some v => max lo (min hi v.1.toNat)
  | none => old

/-- A two-byte parameter after a list of items. -/
def picked16 (ident lo hi old : Nat) (items : List (Byte × Byte × Byte)) : Nat :=
  match lastItem ident items with
  | some v => max lo (min hi (v.1.toNat + 256 * v.2.toNat))
  | none => old

/-- The range of a parameter that is clamped, and whether its value takes two bytes (R8, R166). -/
def policyRange : Nat → Option (Nat × Nat × Bool)
  | 1 => some (1, 3, false) | 2 => some (4, 12, false) | 4 => some (0, 20, false) | 5 => some (1, 20, false)
  | 6 => some (0, 1023, true) | 7 => some (0, 1023, true) | 8 => some (0, 216, false) | 9 => some (0, 216, false)
  | 10 => some (1, 15, false) | 11 => some (1, 63, false) | 12 => some (1, 255, false) | 13 => some (1, 16, false)
  | _ => none

/-- The value an item carries for a clamped parameter, read at the parameter's width (R166). -/
def itemValue (wide : Bool) (item : Byte × Byte × Byte) : Nat :=
  item.2.1.toNat + if wide then 256 * item.2.2.toNat else 0

/-- Whether an item's value is outside its range (R8). -/
def itemClamped (item : Byte × Byte × Byte) : Bool :=
  match policyRange item.1.toNat with
  | some (lo, hi, wide) => decide (itemValue wide item < lo ∨ hi < itemValue wide item)
  | none => false

/-- The two bytes of the value stored for an item (R12, R167). -/
def itemStored (item : Byte × Byte × Byte) : List Byte :=
  match policyRange item.1.toNat with
  | some (lo, hi, wide) =>
    let v := max lo (min hi (itemValue wide item))
    [BitVec.ofNat 8 v, BitVec.ofNat 8 (v / 256)]
  | none => if item.1.toNat = 14 then [item.2.1 &&& 7, 0] else [item.2.1, item.2.2]

/-- The body of a SET POLICY list (R166). -/
def policyBody (items : List (Byte × Byte × Byte)) : List Byte := items.flatMap fun it => [it.1, it.2.1, it.2.2]

/-- The body of a DEMAND BATCH entry (R166). -/
def entryBytes (r : ReportEntry) : List Byte :=
  [BitVec.ofNat 8 r.handle, BitVec.ofNat 8 r.demandDL, BitVec.ofNat 8 (r.demandDL / 256), BitVec.ofNat 8 r.demandUL,
    BitVec.ofNat 8 (r.demandUL / 256), BitVec.ofNat 8 r.cls, BitVec.ofNat 8 r.ta, BitVec.ofNat 8 (r.ta / 256)]

/-- An entry fits its fields of the telegram. -/
def entryFits (r : ReportEntry) : Prop :=
  r.handle < 256 ∧ r.demandDL < 65536 ∧ r.demandUL < 65536 ∧ r.cls < 256 ∧ r.ta < 65536

/-- The bytes of a response body value of two bytes. -/
def bytes2 (n : Nat) : List Byte := [BitVec.ofNat 8 n, BitVec.ofNat 8 (n / 256)]

/-- The bytes of a response body value of three bytes. -/
def bytes3 (n : Nat) : List Byte := [BitVec.ofNat 8 n, BitVec.ofNat 8 (n / 256), BitVec.ofNat 8 (n / 65536)]

/-- A flag as a byte (R167). -/
def flagByte (b : Bool) : Byte := if b = true then 1 else 0

/-- A link as a byte, 255 for none (R167). -/
def linkByte : Option Link → Byte
  | some .l0 => 0 | some .l1 => 1 | some .l2 => 2 | some .l3 => 3
  | none => 255

/-- A set field is one byte, whose bits from bit 0 on are these and whose other bits are 0 (R166). -/
def FieldBits (field : List Byte) (bits : List Bool) : Prop :=
  ∃ b : Byte, field = [b] ∧ ∀ n, b.getLsbD n = bits[n]?.getD false

/-- The sum of a telegram's bytes (R152). -/
def byteTotal (bytes : List Byte) : Nat := (bytes.map BitVec.toNat).sum

/-- The handle of the record at a head, 0 when the head is absent (R69). -/
def HeadHandle (s : State) (head : Option RecIdx) (h : Nat) : Prop :=
  (head = none → h = 0) ∧
  ∀ i o k handle, head = some i → s.occupant i = some o → o.attachment.place? = some (k, handle) → h = handle

/-- `body` is the eight bytes of a sector in READ SECTORS: state, bound link, pin, missed-build count, batch-seen flag, ring
size, and the handles at the DL and UL head (R69, R167). -/
def SectorBytes (s : State) (k : SectorId) (body : List Byte) : Prop :=
  ∃ (state : Byte) (dl ul : Nat),
    ((s.sector k).state = .disabled → state = 0) ∧ ((s.sector k).state = .unbound → state = 1) ∧
    (∀ l, (s.sector k).state = .silent l → state = 2) ∧ (∀ l, (s.sector k).state = .present l → state = 3) ∧
    HeadHandle s (s.sector k).dlHead dl ∧ HeadHandle s (s.sector k).ulHead ul ∧
    body = [state, linkByte (s.sector k).state.link?, linkByte (s.policy.pins.get k),
      BitVec.ofNat 8 (s.sector k).missed, flagByte (s.sector k).batchSeen, BitVec.ofNat 8 (s.sector k).ring.length,
      BitVec.ofNat 8 dl, BitVec.ofNat 8 ul]

/-- The ten bytes of a sector in READ PLAN SUMMARY, DL first; all 0 for a sector that is not in the plan (R167). -/
def summaryBytes : Option SectorPlan → List Byte
  | none => [0, 0, 0, 0, 0, 0, 0, 0, 0, 0]
  | some p =>
    [BitVec.ofNat 8 p.dl.tiles, BitVec.ofNat 8 p.dl.served] ++ bytes2 p.dl.unmet ++ [BitVec.ofNat 8 p.dl.blocked,
      BitVec.ofNat 8 p.ul.tiles, BitVec.ofNat 8 p.ul.served] ++ bytes2 p.ul.unmet ++ [BitVec.ofNat 8 p.ul.blocked]

/-- The 39 bytes of READ PLAN SUMMARY for a plan record: its frame, status (0 EMPTY, 1 BUILT, 2 REPEATED), overrun flag
and contents (R132, R167). -/
def planSummaryBytes (frame status : Nat) (overrun : Bool) (plan : Option Plan) : List Byte :=
  let sector : SectorId → Option SectorPlan := fun k => plan.bind fun p => p.sectors.get k
  let inPlan : SectorId → Nat := fun k => if (sector k).isSome = true then 1 else 0
  bytes2 frame ++ [BitVec.ofNat 8 (status + if overrun = true then 4 else 0)] ++
    (match plan with
      | some p => [BitVec.ofNat 8 p.d, BitVec.ofNat 8 p.g, BitVec.ofNat 8 p.mh, BitVec.ofNat 8 p.budget,
          BitVec.ofNat 8 p.used]
      | none => [0, 0, 0, 0, 0]) ++
    [BitVec.ofNat 8 (inPlan .s0 + 2 * inPlan .s1 + 4 * inPlan .s2)] ++
    summaryBytes (sector .s0) ++ summaryBytes (sector .s1) ++ summaryBytes (sector .s2)

/-- The bytes of the four terms. -/
def termsBytes (t : Terms) : List Byte :=
  [BitVec.ofNat 8 t.weight, BitVec.ofNat 8 t.resDL, BitVec.ofNat 8 t.resUL, BitVec.ofNat 8 t.cap]

end Sys2Proof.Safety
end

