-- ==== Sys2Proof/WellFormed.lean ====
section
/-! DEFINITION. Which commands are well formed: a request row carries a body that a telegram can carry (R152). -/

namespace Sys2Proof

/-- The greatest body length of a request telegram (R152). -/
def maxBody : Nat := 60

/-- A request row is well formed when its body is one a telegram can carry, 0 to 60 bytes (R152). The other rows
carry no field that a range restricts: every link, record index, level and run of bits is one the part can meet. -/
def Instr.wf (i : Instr) : Bool :=
  match i.request? with
  | some (_, _, _, body) => decide (body.length ≤ maxBody)
  | none => true

end Sys2Proof
end

