-- ==== Sys2Proof/Certificates/Slice0/Obligations.lean ====
section
/-! DEFINITION. The statements about the model, for the provers: what each command does and leaves alone, and the laws
every step keeps. The words they are written in stand in Sys2Proof/Safety.lean. -/

open Sys2Proof Sys2Proof.Machine Sys2Proof.Safety

/-! ### The machine and its queue -/

/-- A step takes the command at the front of the queue and runs it on the state with the queue's rest. -/
def Obligations.StepRunsFrontCommand : Prop :=
  ∀ (c : Instr) (rest : List Instr) (s : State), s.pending = c :: rest → step s = exec c { s with pending := rest }

/-- Every command completes in every state, and leaves the commands that wait as they are. -/
def Obligations.EveryCommandCompletes : Prop :=
  ∀ (c : Instr) (s : State), ∃ t, exec c s = .next t ∧ t.pending = s.pending

/-- The model's own choices for what cannot come (log entries 2, 3, 6 and 9): the part idles on an empty queue; an event
that cannot come changes nothing; and a power-on reset leaves the levels of the power-low and select inputs, and the
commands that wait, to the outside world. -/
def Obligations.ChoicesForWhatCannotCome : Prop :=
  (∀ s : State, s.pending = [] → step s = .next s) ∧
  (∀ s : State, s.ftu.state ≠ .locked → exec .missedExpiry s = .next s) ∧
  (∀ (s : State) (i : RecIdx), (∀ o ∈ s.occupant i, o.attachment.move? = none) → exec (.moveExpiry i) s = .next s) ∧
  (∀ s : State, s.builder = none → exec .buildCompletion s = .next s) ∧
  (∀ (s : State) (l : Link) (bits : List Bool), (s.port l).selected = false →
    exec (.selectRelease l bits) s = .next s ∧ exec (.holdTimeout l bits) s = .next s) ∧
  (∀ (s : State) (l : Link), (s.port l).selected = true → exec (.selectAssert l []) s = .next s) ∧
  ∀ s : State, ∃ t, exec .powerOnReset s = .next t ∧ t.powerLow = s.powerLow ∧ t.pending = s.pending ∧
    ∀ l, (t.port l).selected = (s.port l).selected

/-! ### Reset -/

/-- Power-on reset returns every block to the values its chapter states (R18, R34, R53, R70, R72, R84, R135, R137, R165), and
State.reset holds the same. No select period that was in progress goes on; a link whose select line is found asserted starts a
period at that moment, with the reset hold limit read and the EMPTY response going out (R151, R165). -/
def Obligations.PowerOnResetValues : Prop :=
  ∀ s : State, ∃ t, exec .powerOnReset s = .next t ∧
    (∀ l, ((s.port l).selected = false → (t.port l).selected = false ∧ (t.port l).outgoing = []) ∧
      ((s.port l).selected = true → (t.port l).selected = true ∧ (t.port l).hold = 2 ∧
        (t.port l).outgoing = [3, 0, 0, 0, 253] ∧ (t.port l).heldOut = false)) ∧
    (∀ l, (State.reset.port l).selected = false) ∧ ∀ u, u = t ∨ u = State.reset →
    u.ftu.state = .free ∧ u.ftu.fresh = true ∧ u.ftu.frame = 0 ∧ u.ftu.h = 0 ∧ u.ftu.goodRun = 0 ∧
    u.ftu.glitch = 0 ∧ u.ftu.missed = 0 ∧ u.ftu.stray = 0 ∧ u.ftu.interval = 0 ∧ u.ftu.pulseSeen = false ∧
    u.ftu.sampled = false ∧ u.ftu.inForce = { p := 192000, t := 64, k := 4 } ∧ u.ftu.pendingSet = none ∧
    u.policy.n = 3 ∧ u.policy.d = 10 ∧ u.policy.window = { o := 2, w := 12 } ∧ u.policy.pendingWindow = none ∧
    u.policy.g = 4 ∧ u.policy.umin = 8 ∧ u.policy.z = 160 ∧ u.policy.e = 640 ∧ u.policy.bn = 216 ∧
    u.policy.bl = 96 ∧ u.policy.m = 3 ∧ u.policy.hlim = 8 ∧ u.policy.alim = 50 ∧ u.policy.hold = 2 ∧
    u.policy.adjacency = { p01 := true, p12 := true, p02 := true } ∧
    (∀ k, u.policy.pins.get k = none) ∧
    (∀ k, ∀ tile, tile < 96 → ((u.policy.masks.get k).getLsbD tile = true ↔ tile < 2)) ∧
    (∀ l, u.rights l = { policy := true, sector := true, read := true }) ∧
    (∀ i, u.record i = { generation := 0, occupant := none }) ∧
    (∀ k, u.sector k = { state := .unbound, missed := 0, batchSeen := false, map := [], ring := [],
                         dlHead := none, ulHead := none }) ∧
    (∀ k, u.queue k = []) ∧ u.windowOpen = false ∧ u.builder = none ∧
    u.live = { frame := 0, plan := .empty false } ∧ u.next = none ∧
    ∀ l, (u.port l).bitsIn = [] ∧ (u.port l).slots = 0 ∧ (u.port l).timedOut = false ∧ (u.port l).buffer = none ∧
      (u.port l).errors = { framing := 0, badLength := 0, badChecksum := 0, unknownKind := 0, holdTimeout := 0 } ∧
      (u.port l).causes =
        { linkFault := false, planReady := false, handover := false, sectorState := false, timing := false } ∧
      (u.port l).readyFrame = 0 ∧
      (u.port l).mask =
        { linkFault := true, planReady := true, handover := true, sectorState := true, timing := true } ∧
      u.attentionLine l = false

/-! ### Frame timing -/

/-- An edge that carries no pulse and reaches neither a slot boundary nor the frame's end moves the counts alone
(R19, R29). The edges of a build in flight are the model's own bookkeeping (log entry 5), and so is
the running count before the first pulse (log entry 13). -/
def Obligations.QuietEdgeCounts : Prop :=
  ∀ (s : State) (level : Bool), NoPulse s level → FrameGoesOn s → BuildHasTime s →
    (∀ k, 1 ≤ k → k ≤ 15 → k * s.ftu.inForce.p / 16 ≠ s.ftu.count + 1) →
    exec (.referenceClockEdge level) s = .next (counted s level)

/-- Slot k begins at the edge at which the count reaches floor(k × P / 16): every link with a period in progress counts
it, slot O opens the window, slot W closes it and starts a build, and the other slots do no more (R20, R72, R85, R155).
The edges of a build in flight are the model's own bookkeeping (log entry 5), and so is the running count before the first
pulse (log entry 13). -/
def Obligations.SlotBoundaryEvents : Prop :=
  ∀ (s : State) (level : Bool) (k : Nat), NoPulse s level → FrameGoesOn s → BuildHasTime s →
    16 ≤ s.ftu.inForce.p → 1 ≤ k → k ≤ 15 → k * s.ftu.inForce.p / 16 = s.ftu.count + 1 →
    ∃ u : State, u.ftu = (counted s level).ftu ∧ u = { counted s level with ports := u.ports } ∧
      (∀ l, u.port l =
        if (s.port l).selected = true ∧ (s.port l).timedOut = false then
          { s.port l with slots := (s.port l).slots + 1
                          timedOut := decide ((s.port l).hold + 1 ≤ (s.port l).slots + 1) }
        else s.port l) ∧
      (k = s.policy.window.o → exec (.referenceClockEdge level) s = .next { u with windowOpen := true }) ∧
      (k ≠ s.policy.window.o → k = s.policy.window.w →
        exec (.referenceClockEdge level) s = .next { u with windowOpen := false }.startBuild) ∧
      (k ≠ s.policy.window.o → k ≠ s.policy.window.w → exec (.referenceClockEdge level) s = .next u)

/-- A pulse in LOCKED before P − T is a glitch: the edge is the plain edge with the glitch counter raised. From P − T on
it is accepted: the boundaries still outstanding come first and the edge is the next frame start (R23, R21, R29, R31). The
edges of a build in flight are the model's own bookkeeping (log entry 5). -/
def Obligations.LockedPulseGlitchOrAccepted : Prop :=
  ∀ s : State, s.ftu.state = .locked → s.ftu.fresh = false → s.ftu.sampled = false →
    (s.ftu.count + 1 + s.ftu.inForce.t < s.ftu.inForce.p →
      ∀ u, exec (.referenceClockEdge false) s = .next u →
        exec .pulse s = .next { u with
          ftu := { pulseMeasured s.ftu with
            count := u.ftu.count, glitch := min (s.ftu.glitch + 1) 65535 } }) ∧
    (s.ftu.inForce.p ≤ s.ftu.count + 1 + s.ftu.inForce.t → BuildHasTime s →
      let before : State := { s with ftu := pulseMeasured s.ftu, builder := aged s }
      ∃ t, exec .pulse s = .next t ∧ t = ((slotsAhead s.ftu).foldl State.slotEvent before).startFrame ∧
        t.ftu = frameStarted (pulseMeasured s.ftu))

/-- A pulse in FREE or HOLDOVER is stray, good, or the good pulse that relocks; only the last can move a frame start, and
only from P − T on (R26, R27). A pulse at the edge that starts a frame on the FTU's own count has count 0: the frame
starts, and the pulse is then judged good against the K before it (R31); so it is at the first edge after reset (R34). A
relock at c ≤ T leaves the frame going: it is the plain edge with the new timing state and TIMING, and nothing else
differs; only a build that starts at that very edge sees the relock too, and samples the margin 0 (log entry 8). The edges
of a build in flight are log entry 5. -/
def Obligations.FreePulseStrayGoodOrRelock : Prop :=
  (∀ s : State, s.ftu.state ≠ .locked → s.ftu.fresh = false → s.ftu.sampled = false →
    let c := s.ftu.count + 1
    let par := s.ftu.inForce
    let atEdge := { pulseMeasured s.ftu with count := c }
    (par.t < c → c + par.t < par.p →
      ∀ u, exec (.referenceClockEdge false) s = .next u →
        exec .pulse s = .next { u with
          ftu := { atEdge with stray := min (s.ftu.stray + 1) 65535, goodRun := 0 } }) ∧
    (c < par.p → (c ≤ par.t ∨ par.p ≤ c + par.t) → s.ftu.goodRun + 1 < par.k →
      ∀ u, exec (.referenceClockEdge false) s = .next u →
        exec .pulse s = .next { u with ftu := { atEdge with goodRun := s.ftu.goodRun + 1 } }) ∧
    (c ≤ par.t → c + par.t < par.p → par.k ≤ s.ftu.goodRun + 1 →
      let w := s.policy.window.w
      ∃ t, exec .pulse s = .next t ∧ t.ftu = { atEdge with state := .locked, h := 0, goodRun := 0 } ∧
        (∀ l, (t.port l).causes.timing = true) ∧
        ((1 ≤ w → w ≤ 15 → w * par.p / 16 = c → w = s.policy.window.o) →
          ∀ u, exec (.referenceClockEdge false) s = .next u →
            t = { u with ftu := t.ftu, ports := t.ports } ∧
            ∀ l, t.port l = { u.port l with causes := { (u.port l).causes with timing := true } }) ∧
        (16 ≤ par.p → 1 ≤ w → w ≤ 15 → w * par.p / 16 = c → w ≠ s.policy.window.o → BuildHasTime s →
          t = ({ s with ftu := atEdge, builder := aged s } : State).relock.slotEvent w ∧
          ∃ b, t.builder = some b ∧ b.snapshot.mh = 0)) ∧
    (c < par.p → par.p ≤ c + par.t → par.k ≤ s.ftu.goodRun + 1 → BuildHasTime s →
      let before : State := { s with ftu := pulseMeasured s.ftu, builder := aged s }
      ∃ t, exec .pulse s = .next t ∧
        t = ((slotsAhead s.ftu).foldl State.slotEvent before).relock.startFrame ∧
        t.ftu = frameStarted { pulseMeasured s.ftu with state := .locked, h := 0, goodRun := 0 } ∧
        ∀ l, (t.port l).causes.timing = true) ∧
    (par.p ≤ c →
      ∃ t, exec .pulse s = .next t ∧
        (s.ftu.goodRun + 1 < par.k →
          t.ftu = { frameStarted (pulseMeasured s.ftu) with
            goodRun := s.ftu.goodRun + 1
            h := if s.ftu.state = .holdover then min (s.ftu.h + 1) 4095 else s.ftu.h }) ∧
        (par.k ≤ s.ftu.goodRun + 1 →
          t.ftu = { frameStarted (pulseMeasured s.ftu) with state := .locked, h := 0, goodRun := 0 } ∧
          ∀ l, (t.port l).causes.timing = true))) ∧
  ∀ s : State, s.ftu.state ≠ .locked → s.ftu.sampled = false → BuildHasTime s →
    (s.ftu.fresh = true ∨ s.ftu.inForce.p ≤ s.ftu.count + 1) →
    let u := ({ s with ftu := hRaised (pulseMeasured s.ftu), builder := aged s } : State).startFrame
    (s.ftu.goodRun + 1 < s.ftu.inForce.k →
      exec .pulse s = .next { u with ftu := { u.ftu with goodRun := s.ftu.goodRun + 1 } }) ∧
    (s.ftu.inForce.k ≤ s.ftu.goodRun + 1 →
      exec .pulse s = .next u.relock ∧ u.relock.ftu = { u.ftu with state := .locked, h := 0, goodRun := 0 } ∧
        ∀ l, (u.relock.port l).causes.timing = true) ∧
    (s.ftu.fresh = true → u.ftu.fresh = false ∧ u.ftu.count = 0 ∧ u.ftu.frame = s.ftu.frame)

/-- The missed expiry: in LOCKED, when no pulse comes until the count reaches P + T, the part starts a frame in HOLDOVER
with H 1, counts the miss and raises TIMING on every link (R24, R31, R33). At that edge the boundaries still outstanding
come first and the frame start last. The row as the quiet edges up to the event is
log entry 6, the running count before the first pulse log entry 13. -/
def Obligations.MissedExpiryEntersHoldover : Prop :=
  (∀ s : State, s.ftu.state = .locked → TimingInRange s →
    ∃ t, exec .missedExpiry s = .next t ∧
      t.ftu = { frameStarted s.ftu with
        state := .holdover, h := 1, goodRun := 0, missed := min (s.ftu.missed + 1) 65535, sampled := false
        running := min (s.ftu.running + (s.ftu.inForce.p + s.ftu.inForce.t - s.ftu.count)) 1048575 } ∧
      ∀ l, (t.port l).causes.timing = true) ∧
  ∀ (s : State) (level : Bool), s.ftu.state = .locked → NoPulse s level → BuildHasTime s →
    s.ftu.inForce.p + s.ftu.inForce.t ≤ s.ftu.count + 1 →
    let before : State := { s with ftu := quietMeasured s.ftu level, builder := aged s }
    let ended := (slotsAhead s.ftu).foldl State.slotEvent before
    let expired : State := { ended with
      ftu := { quietMeasured s.ftu level with
        state := .holdover, h := 1, goodRun := 0, missed := min (s.ftu.missed + 1) 65535 } }.raiseTiming
    exec (.referenceClockEdge level) s = .next expired.startFrame

/-- In FREE and HOLDOVER a frame starts when the count reaches P: the number rises, H rises in HOLDOVER, and the pending
set and the pending window pair come into force. The edge is the frame start and nothing before it. The first edge after
reset starts frame 0 (R14, R19, R22, R25, R31, R34). The row as the quiet edges up to the event is log entry 6, the
running count before the first pulse log entry 13. -/
def Obligations.FrameStartsOnOwnCount : Prop :=
  (∀ s : State, s.ftu.state ≠ .locked → TimingInRange s →
    ∃ t, exec .frameStart s = .next t ∧
      t.policy = { s.policy with
        window := s.policy.pendingWindow.getD s.policy.window, pendingWindow := none } ∧
      (s.ftu.fresh = false →
        t.ftu = { frameStarted s.ftu with
          h := if s.ftu.state = .holdover then min (s.ftu.h + 1) 4095 else s.ftu.h
          sampled := false
          running := min (s.ftu.running + (s.ftu.inForce.p - s.ftu.count)) 1048575 }) ∧
      (s.ftu.fresh = true →
        t.ftu = { frameStarted s.ftu with
          fresh := false, frame := s.ftu.frame, sampled := false, running := min (s.ftu.running + 1) 1048575 })) ∧
  ∀ (s : State) (level : Bool), s.ftu.state ≠ .locked → NoPulse s level → BuildHasTime s →
    (s.ftu.fresh = true ∨ s.ftu.inForce.p ≤ s.ftu.count + 1) →
    exec (.referenceClockEdge level) s =
      .next ({ s with ftu := hRaised (quietMeasured s.ftu level), builder := aged s } : State).startFrame

/-- PULSE is an edge with the frame pulse input sampled asserted, whatever it was before (R19; log entry 10). The rows of
the timing events are runs of plain edges: each stands for the edges, with the frame pulse input sampled released, up to
and including the one at which the event comes (log entry 6). A slot boundary row ends at the boundary of the first slot
ahead, or at the next frame start; a frame start row at the first edge on which the frame does not go on, and in LOCKED
that is the missed expiry. Where a move's expiry and a hold timeout row end, MoveExpiryReturnsTheRecord and
HoldTimeoutEndsThePeriod say. -/
def Obligations.TimingRowsAreQuietEdges : Prop :=
  (∀ u : State, exec .pulse u = exec (.referenceClockEdge true) u) ∧
  (∀ u : State, exec (.referenceClockEdge false) u = .next (u.edge false)) ∧
  ∀ s : State,
    (∃ t, exec .slotBoundary s = .next t ∧ t = quietRun s.ftu.quietEdges s ∧ 1 ≤ s.ftu.quietEdges ∧
      (TimingInRange s →
        (s.ftu.fresh = false → ∀ k rest, slotsAhead s.ftu = k :: rest →
          t.ftu.count = k * s.ftu.inForce.p / 16 ∧ t.ftu.frame = s.ftu.frame ∧ slotsAhead t.ftu = rest) ∧
        ((slotsAhead s.ftu = [] ∨ s.ftu.fresh = true) → t.ftu.count = 0 ∧ t.ftu.fresh = false))) ∧
    (∃ n, 1 ≤ n ∧ exec .frameStart s = .next (quietRun n s) ∧
      (TimingInRange s → (∀ m, m + 1 < n → FrameGoesOn (quietRun m s)) ∧ ¬FrameGoesOn (quietRun (n - 1) s))) ∧
    (s.ftu.state = .locked → exec .missedExpiry s = exec .frameStart s) ∧
    (∀ i, ∃ n, exec (.moveExpiry i) s = .next (quietRun n s)) ∧
    ∀ l bits, ∃ n, exec (.holdTimeout l bits) s = .next (quietRun n (s.clockLink l bits))

/-- At a frame start every MOVING record loses one frame, and so does its queued notice; a record whose frames reach 0 is
ACTIVE in its source with its lapse mark naming the target, and its notice is withdrawn (R147). -/
def Obligations.MovesCountDownAtFrameStart : Prop :=
  ∀ s : State,
    (∀ v ∈ s.policy.pendingWindow, 1 ≤ v.w) → (s.policy.pendingWindow = none → 1 ≤ s.policy.window.w) →
    (∀ i o, s.occupant i = some o →
      (o.attachment.move? = none → s.startFrame.occupant i = some o) ∧
      ∀ k h target n, o.attachment = .moving k h target n →
        (n ≤ 1 → s.startFrame.occupant i = some { o with attachment := .active k h, lapse := some target }) ∧
        (1 < n → s.startFrame.occupant i = some { o with attachment := .moving k h target (n - 1) })) ∧
    (∀ i, (s.startFrame.record i).generation = (s.record i).generation) ∧
    ∀ k, s.startFrame.queue k =
      ((s.queue k).filter fun q => !expiresNow s q.index).map fun q => { q with frames := q.frames - 1 }

/-- Whatever the queue of its notice, a move left alone ends: the record is ACTIVE in its source under its handle. Its
lapse mark names the target, unless the target stopped being PRESENT first and the move was cancelled (R147, R149). The
row as the quiet frames up to the event is log entry 6. The run ends at a frame start, and no earlier frame start ended
the move; until it ends the record is MOVING, or the target has stopped being PRESENT. -/
def Obligations.MoveExpiryReturnsTheRecord : Prop :=
  ∀ (s : State) (i : RecIdx) (o : Occupant) (k target : SectorId) (h n : Nat),
    TimingInRange s → PolicyInRange s → s.occupant i = some o → o.attachment = .moving k h target n → 1 ≤ n →
    ∃ t u, exec (.moveExpiry i) s = .next t ∧ t.occupant i = some u ∧ u.attachment = .active k h ∧ u.id = o.id ∧
      u.terms = o.terms ∧ (t.record i).generation = (s.record i).generation ∧
      (u.lapse = some target ∨ (t.sector target).state.isPresent = false) ∧
      let going : Nat → Prop := fun m =>
        ∃ v f, (quietRun m s).occupant i = some v ∧ v.attachment = .moving k h target f
      ∃ q, 1 ≤ q ∧ t = quietRun q s ∧ ¬FrameGoesOn (quietRun (q - 1) s) ∧
        (∀ m, m < q → going m ∨ ((quietRun m s).sector target).state.isPresent = false) ∧
        ∀ m, m + 1 < q → ¬FrameGoesOn (quietRun m s) → going (m + 1)

/-- At a frame start carrying F, a BUILT NEXT of F becomes LIVE whole, void flags included. Otherwise LIVE is repeated: an
EMPTY one takes the number and the abandonment, any other is copied as REPEATED with the overrun flag, each grant that is
not void is tested, and PLAN READY is raised on the links of PRESENT sectors. NEXT and the build are gone (R126, R127). -/
def Obligations.PlanSwitchesOrRepeats : Prop :=
  ∀ s : State,
    (∀ v ∈ s.policy.pendingWindow, 1 ≤ v.w) → (s.policy.pendingWindow = none → 1 ≤ s.policy.window.w) →
    let frame := if s.ftu.fresh = true then s.ftu.frame else (s.ftu.frame + 1) % 4096
    let t := s.startFrame
    t.ftu.frame = frame ∧ t.builder = none ∧ t.next = none ∧
    (∀ n, s.next = some n → n.frame = frame →
      t.live = { frame := frame, plan := .built n.plan } ∧
      ∀ l, (t.port l).causes.planReady = (s.port l).causes.planReady ∧
        (t.port l).readyFrame = (s.port l).readyFrame) ∧
    ((∀ n ∈ s.next, n.frame ≠ frame) →
      (∀ overrun, s.live.plan = .empty overrun →
        t.live = { frame := frame, plan := .empty s.builder.isSome } ∧
        ∀ l, (t.port l).causes.planReady = (s.port l).causes.planReady) ∧
      ∀ p, s.live.plan = .built p ∨ s.live.plan = .repeated p →
        ∃ f : SectorId → Grant → Bool,
          t.live = { frame := frame, plan := .repeated (p.voidWhere f) } ∧
          (∀ k g, f k g = false ↔ GrantStands s k g) ∧
          t.live.view.overrun = true ∧
          (∀ l k, (s.sector k).state = .present l →
            (t.port l).causes.planReady = true ∧ (t.port l).readyFrame = frame) ∧
          ∀ l, (∀ k, (s.sector k).state ≠ .present l) →
            (t.port l).causes.planReady = (s.port l).causes.planReady ∧
            (t.port l).readyFrame = (s.port l).readyFrame)

/-! ### The build -/

/-- Presence evaluation: a bound sector whose flag is set is PRESENT with a count of 0; otherwise its count rises and at M
or above it is SILENT. Its flag is cleared. A sector that falls silent loses the moves that target it and its queue, and with
the queue HANDOVER on its link; a change of state raises SECTOR STATE on every link; and no other cause and no other field of
a port changes. Unbound and disabled sectors are left alone. Every build start makes this evaluation (R79, R80). -/
def Obligations.PresenceEvaluation : Prop :=
  ∀ s : State,
    let t := s.presence
    let silenced : SectorId → Prop := fun k =>
      (s.sector k).state.isPresent = true ∧ (t.sector k).state.isPresent = false
    (∀ k, (s.sector k).state.link? = none → t.sector k = s.sector k) ∧
    (∀ k l, (s.sector k).state.link? = some l →
      let missed := if (s.sector k).batchSeen = true then 0 else min ((s.sector k).missed + 1) 15
      t.sector k = { s.sector k with
        batchSeen := false, missed := missed
        state := if (s.sector k).batchSeen = true then .present l
          else if s.policy.m ≤ missed then .silent l else (s.sector k).state }) ∧
    (∀ i, (t.record i).generation = (s.record i).generation) ∧
    (∀ i o, s.occupant i = some o →
      (∀ k h target n, o.attachment = .moving k h target n → silenced target →
        t.occupant i = some { o with attachment := .active k h }) ∧
      ((∀ k h target n, o.attachment = .moving k h target n → ¬silenced target) → t.occupant i = some o)) ∧
    (∀ k, (silenced k → t.queue k = []) ∧ (¬silenced k → t.queue k = s.queue k)) ∧
    ((∃ k, (t.sector k).state ≠ (s.sector k).state) → ∀ l, (t.port l).causes.sectorState = true) ∧
    (∀ k l, silenced k → (s.sector k).state.link? = some l →
      (∀ j, (s.sector j).state.link? = some l → j = k) → (t.port l).causes.handover = false) ∧
    ((∀ k, (t.sector k).state = (s.sector k).state) →
      ∀ l, (t.port l).causes.sectorState = (s.port l).causes.sectorState) ∧
    (∀ l, (∀ k, silenced k → (s.sector k).state.link? ≠ some l) →
      (t.port l).causes.handover = (s.port l).causes.handover) ∧
    (∀ l, t.port l = { s.port l with causes := { (s.port l).causes with
      sectorState := (t.port l).causes.sectorState, handover := (t.port l).causes.handover } }) ∧
    t = { s with table := t.table, sectors := t.sectors, queues := t.queues, ports := t.ports } ∧
    s.startBuild.sectors = t.sectors ∧ s.startBuild.queues = t.queues ∧ s.startBuild.ports = t.ports

/-- The power-low line is held, and a build start samples it. The snapshot holds the policy values, the budget and the
margin of that moment, the PRESENT sectors in the order F mod N gives, and their rings, heads and masks (R7, R28, R86,
R87, R88). -/
def Obligations.SnapshotTakenAtBuildStart : Prop :=
  (∀ (s : State) (level : Bool), exec (.powerLowLineChange level) s = .next { s with powerLow := level }) ∧
  ∀ s : State, 1 ≤ s.policy.n → s.policy.n ≤ 3 → ∃ b, s.startBuild.builder = some b ∧ b.age = 0 ∧
    b.work = Work.start b.snapshot ∧
    b.snapshot.frame = (s.ftu.frame + 1) % 4096 ∧
    b.snapshot.d = s.policy.d ∧ b.snapshot.g = s.policy.g ∧ b.snapshot.umin = s.policy.umin ∧
    b.snapshot.z = s.policy.z ∧ b.snapshot.alim = s.policy.alim ∧ b.snapshot.n = s.policy.n ∧
    b.snapshot.adjacency = s.policy.adjacency ∧
    b.snapshot.budget = (if s.powerLow = true then s.policy.bl else s.policy.bn) ∧
    (s.ftu.state = .locked → b.snapshot.mh = 0) ∧ (s.ftu.state = .free → b.snapshot.mh = 8) ∧
    (s.ftu.state = .holdover → b.snapshot.mh = min (s.ftu.h / 32) 8) ∧
    (b.snapshot.sectors.map fun v => sectorNo v.id) =
      (((List.range s.policy.n).map fun j => ((s.ftu.frame + 1) % 4096 + j) % s.policy.n).filter fun x =>
        allSectors.any fun k => decide (sectorNo k = x) && (s.presence.sector k).state.isPresent) ∧
    ∀ v ∈ b.snapshot.sectors, v.ring.map SnapRecord.index = (s.sector v.id).ring ∧
      v.dlHead = (s.sector v.id).dlHead ∧ v.ulHead = (s.sector v.id).ulHead ∧ v.mask = s.policy.masks.get v.id

/-- A record of a PRESENT sector's ring takes part exactly when it is not suspended, with the fields it held at build
start; demands are taken as 0 from the age limit on. Then every record of those rings is one build older (R40, R88, R89). -/
def Obligations.RecordEntriesAndAges : Prop :=
  ∀ s : State, ∃ b, s.startBuild.builder = some b ∧
    (∀ v ∈ b.snapshot.sectors, ∀ r ∈ v.ring, r.generation = (s.record r.index).generation ∧
      (r.entry = none ↔ ∀ o ∈ s.occupant r.index, o.suspended = true) ∧
      ∀ e ∈ r.entry, ∀ o ∈ s.occupant r.index,
        e.index = r.index ∧ e.generation = r.generation ∧ e.home = v.id ∧
        (∀ k h, o.attachment.place? = some (k, h) → e.handle = h) ∧ e.terms = o.terms ∧ e.cls = o.cls ∧ e.ta = o.ta ∧
        (e.outer = true ↔ s.policy.z ≤ o.ta) ∧ e.creditDL = o.creditDL ∧ e.creditUL = o.creditUL ∧
        e.demandDL = (if s.policy.alim ≤ o.age then 0 else o.demandDL) ∧
        e.demandUL = (if s.policy.alim ≤ o.age then 0 else o.demandUL)) ∧
    ∀ i o, s.presence.occupant i = some o →
      ((∃ k, (s.presence.sector k).state.isPresent = true ∧ i ∈ (s.sector k).ring) →
        s.startBuild.occupant i = some { o with age := min (o.age + 1) 255 }) ∧
      ((¬∃ k, (s.presence.sector k).state.isPresent = true ∧ i ∈ (s.sector k).ring) →
        s.startBuild.occupant i = some o)

/-- The edge arithmetic: delay ceil(TA / 16), trim max(0, delay + Mh − G), usable max(0, 20 − trim), and the bytes a tile
carries (R114, R115, R117). -/
def Obligations.EdgeArithmetic : Prop :=
  ∀ (snap : Snapshot) (e : Entry),
    (e.ta ≤ 16 * delayOf e.ta ∧ 16 * delayOf e.ta < e.ta + 16) ∧ (e.ta ≤ 1023 → delayOf e.ta ≤ 64) ∧
    (trimOf snap e : Int) = max 0 ((delayOf e.ta : Int) + snap.mh - snap.g) ∧
    (usableOf snap e : Int) = max 0 (20 - (trimOf snap e : Int)) ∧
    (e.ta ≤ 1023 → snap.mh ≤ 8 → trimOf snap e ≤ 72) ∧
    (∀ tile, tile < 90 → tileBytes snap e tile = classBytes e.cls) ∧
    (∀ tile, 90 ≤ tile → 20 * tileBytes snap e tile ≤ classBytes e.cls * usableOf snap e ∧
      classBytes e.cls * usableOf snap e < 20 * tileBytes snap e tile + 20 ∧
      tileBytes snap e tile ≤ classBytes e.cls) ∧
    (List.range 8).map classBytes = [0, 6, 12, 18, 27, 36, 48, 60]

/-- The placement laws of every plan: each tile is assigned in each sector to at most one record; no tile is assigned in
two adjacent sectors when either assignee is outer; no barred tile is assigned, and an edge tile only to a record whose
usable count is at least Umin (R111, R112, R116). That the assignments are the tiles of the plan's grants is
PlanHoldsWhatTheBuildPlaced. -/
def Obligations.PlacementLawsHold : Prop :=
  ∀ snap : Snapshot,
    let occ := (runBuild snap (Work.start snap)).occupancy
    OneAssigneePerTile occ ∧ ReuseRespected snap occ ∧ BarsAndEdgeRespected snap occ ∧
      ∀ a ∈ occ, a.tile < 96 ∨ 16 < snap.d

/-- The budget law of every plan: the downlink assignments are what the build counts, and never exceed the budget; and the
credit update is made whatever the budget (R95, R98). -/
def Obligations.BudgetLawHolds : Prop :=
  (∀ snap : Snapshot, BudgetRespected snap (runBuild snap (Work.start snap))) ∧
  ∀ (snap : Snapshot) (dir : Dir) (w : Work) (e : Entry),
    (snap.entries.map Entry.index).Nodup → e ∈ snap.entries →
    (w.at dir).records.map WorkRecord.index = snap.entries.map Entry.index →
    let before := (w.at dir).record e.index
    let after := ((creditUpdate snap dir w).at dir).record e.index
    after.credit = (if 0 < before.need then min (before.credit + e.terms.weight) (4 * e.terms.weight) else 0) ∧
      after.need = before.need ∧ after.blocked = before.blocked

/-- Need is min(ceil(demand / bytes), cap), 0 without class or demand; and in every plan a record has at most one grant in
a direction, its tiles ascending, no more than its need and its cap (R90, R100, R120). -/
def Obligations.GrantsWithinNeedHold : Prop :=
  (∀ (e : Entry) (dir : Dir),
    (e.cls = 0 ∨ e.demand dir = 0 → needOf e dir = 0) ∧
    (e.cls ≠ 0 → e.demand dir ≠ 0 → ∃ q, q * classBytes e.cls < e.demand dir + classBytes e.cls ∧
      e.demand dir ≤ q * classBytes e.cls ∧ needOf e dir = min q e.terms.cap)) ∧
  ∀ snap : Snapshot, (snap.entries.map Entry.index).Nodup →
    GrantsWithinNeed (runBuild snap (Work.start snap)).dl .dl ∧ GrantsWithinNeed (runBuild snap (Work.start snap)).ul .ul

/-- A build works through its directions by R91's order: need, Pass R, the credit update, Pass S, Pass L, working heads, the
downlink before the uplink, from nothing placed and the snapshot's credits. Each pass goes by its own rule along the walk,
each attempt places the lowest tile that fits, blocks the record, or ends the pass at the budget (R90 to R99, R110, R111). -/
def Obligations.PassesFollowTheRules : Prop :=
  ∀ snap : Snapshot, SnapshotOk snap →
    ((Work.start snap).occupancy = [] ∧ (Work.start snap).dlCount = 0 ∧
      ∀ dir, ((Work.start snap).at dir).grants = [] ∧ (∀ k, ((Work.start snap).at dir).lastS.get k = none) ∧
        ((Work.start snap).at dir).records = snap.entries.map fun e =>
          { index := e.index, need := 0, credit := e.credit dir, blocked := false }) ∧
    ∃ mid, DirectionRun snap .dl (Work.start snap) mid ∧ DirectionRun snap .ul mid (runBuild snap (Work.start snap))

/-- The plan that a build hands over: the snapshot's values and the downlink count; and for each sector of the snapshot, and
no other, the grants of its records in the order they were started, downlink first, whose tiles are exactly the sector's
assignments, each once, with their bytes and edge-trimmed flag, and the two summaries of what the grants hold and of what
was left unmet and blocked (R100, R101, R111, R117, R118, R122, R124). -/
def Obligations.PlanHoldsWhatTheBuildPlaced : Prop :=
  ∀ snap : Snapshot, SnapshotOk snap →
    let w := runBuild snap (Work.start snap)
    let plan := planOf snap w
    (plan.d = snap.d ∧ plan.g = snap.g ∧ plan.mh = snap.mh ∧ plan.budget = snap.budget ∧ plan.used = w.dlCount) ∧
    ∀ k, ((∀ v ∈ snap.sectors, v.id ≠ k) → plan.sectors.get k = none) ∧
      ∀ v ∈ snap.sectors, v.id = k → ∃ p, plan.sectors.get k = some p ∧
        (let started : Dir → List Grant := fun dir =>
          ((w.at dir).grants.filter fun g => decide (g.entry.home = k)).map (publishedGrant snap dir)
         let mine := snap.entries.filter fun e => decide (e.home = k)
         p.grants = started .dl ++ started .ul ∧
         SummaryCounts .dl w.dl (started .dl) mine p.dl ∧ SummaryCounts .ul w.ul (started .ul) mine p.ul) ∧
        (∀ dir, ∀ g ∈ (w.at dir).grants, g.entry ∈ snap.entries) ∧
        (∀ i t, (∃ a ∈ w.occupancy, a.sector = k ∧ a.index = i ∧ a.tile = t) ↔
          ∃ g ∈ p.grants, g.index = i ∧ t ∈ g.tiles) ∧
        (p.grants.flatMap Grant.tiles).Nodup ∧
        ∀ g ∈ p.grants, ∀ t ∈ g.tiles, t < 96 ∧ (g.dir = .dl ↔ t < 6 * snap.d)

/-- Completion: NEXT takes the plan with each grant tested against the live state; the working credits of the records that
still match are committed, at most 4 times the weight now; the working heads still in their rings are committed; PLAN
READY is raised on the links of PRESENT sectors; and the builder is IDLE (R103 to R106). A build that has had its 4,096
edges completes by itself before the next one (R102; log entry 5). -/
def Obligations.BuildCompletionCommits : Prop :=
  ∀ (s : State) (b : Build), s.builder = some b →
    let snap := b.snapshot
    let w := runBuild snap b.work
    ∃ u : State, exec .buildCompletion s = .next u ∧ u.builder = none ∧
      (∃ f : SectorId → Grant → Bool,
        u.next = some { frame := snap.frame, plan := (planOf snap w).voidWhere f } ∧
        ∀ k g, f k g = false ↔ GrantStands s k g) ∧
      (∀ i, (u.record i).generation = (s.record i).generation) ∧
      (∀ i, s.occupant i = none → u.occupant i = none) ∧
      (∀ i o, s.occupant i = some o →
        (∀ e, snap.entries.find? (fun e => decide (e.index = i)) = some e →
          (Matches s e.home i e.generation e.handle →
            u.occupant i = some { o with
              creditDL := min (w.dl.record i).credit (4 * o.terms.weight)
              creditUL := min (w.ul.record i).credit (4 * o.terms.weight) }) ∧
          (¬Matches s e.home i e.generation e.handle → u.occupant i = some o)) ∧
        ((∀ e ∈ snap.entries, e.index ≠ i) → u.occupant i = some o)) ∧
      (∀ k, ∃ dl ul, u.sector k = { s.sector k with dlHead := dl, ulHead := ul } ∧
        (∀ h, w.dl.heads.get k = some h →
          dl = if h.index ∈ (s.sector k).ring ∧ (s.record h.index).generation = h.generation then some h.index
            else (s.sector k).dlHead) ∧
        (∀ h, w.ul.heads.get k = some h →
          ul = if h.index ∈ (s.sector k).ring ∧ (s.record h.index).generation = h.generation then some h.index
            else (s.sector k).ulHead) ∧
        (w.dl.heads.get k = none → dl = (s.sector k).dlHead) ∧
        (w.ul.heads.get k = none → ul = (s.sector k).ulHead)) ∧
      (∀ l k, (s.sector k).state = .present l → u.port l =
        { s.port l with causes := { (s.port l).causes with planReady := true }, readyFrame := snap.frame }) ∧
      (∀ l, (∀ k, (s.sector k).state ≠ .present l) → u.port l = s.port l) ∧
      u = { s with table := u.table, sectors := u.sectors, ports := u.ports, next := u.next, builder := none } ∧
      (4096 ≤ b.age → exec .pulse s = exec .pulse u ∧
        ∀ level, exec (.referenceClockEdge level) s = exec (.referenceClockEdge level) u)

/-! ### Select periods -/

/-- A select period begins with the hold limit read and the receive state cleared; what goes out is the held response, or
the EMPTY response, and then bits 0; and the buffer empties with the first complete byte (R151). The bits that the row
carries are log entry 9. A response is its status value, the echoes, the length, the body and the byte that makes the sum
0 modulo 256 (R166, R167). -/
def Obligations.SelectAssertStartsPeriod : Prop :=
  (∀ r : Response, ∃ sum : Byte,
    responseTelegram r =
      BitVec.ofNat 8 (statusNo r.status) :: r.tag :: r.kind :: BitVec.ofNat 8 r.body.length :: r.body ++ [sum] ∧
    byteTotal (responseTelegram r) % 256 = 0) ∧
  [Status.ok, .okClamped, .part, .empty].map statusNo = [0, 1, 2, 3] ∧
  [Status.range, .noRight, .notBound, .inUse, .duplicate, .tableFull, .noSubscriber, .sectorDisabled, .sectorPinned,
    .sectorTaken, .boundElsewhere, .handleInUse, .noHandle, .windowClosed, .notActive, .suspended, .targetSilent,
    .noticeFull, .queueEmpty, .notMoving, .tooLate, .notYet, .stale, .lastPolicy].map statusNo = List.range' 16 24 ∧
  [Status.framing, .badLength, .badChecksum, .unknownKind, .holdTimeout].map statusNo = [48, 49, 50, 51, 52] ∧
  ∀ (s : State) (l : Link) (bits : List Bool), (s.port l).selected = false →
    ∃ t, exec (.selectAssert l bits) s = .next t ∧ t = { s with ports := t.ports } ∧
      (∀ j, j ≠ l → t.port j = s.port j) ∧
      t.port l = { s.port l with
        selected := true, hold := s.policy.hold, slots := 0, timedOut := false, bitsIn := bits
        outgoing := responseTelegram ((s.port l).buffer.getD { status := .empty, tag := 0, kind := 0, body := [] })
        heldOut := (s.port l).buffer.isSome
        bitsOut := (bitsOfBytes (t.port l).outgoing ++ List.replicate bits.length false).take bits.length
        buffer := if 8 ≤ bits.length then none else (s.port l).buffer }

/-- A select period that carried the telegram of a well-formed request, whatever fill follows it, ends with that request
taken, as its row says (R152, R154, R166). The request rows and the bits of a release are log entries 4 and 9. A request
is its kind value, tag, length, body and checksum byte, each byte clocked most significant bit first (R152, R166). -/
def Obligations.GoodTelegramIsTaken : Prop :=
  (∀ (kind : ReqKind) (tag : Byte) (body : List Byte), ∃ sum : Byte,
    requestTelegram kind tag body =
      BitVec.ofNat 8 kind.code :: tag :: BitVec.ofNat 8 body.length :: body ++ [sum] ∧
    byteTotal (requestTelegram kind tag body) % 256 = 0) ∧
  [ReqKind.fetch, .readPolicy, .setPolicy, .setBarMask, .restartScheduling, .setTiming, .readTiming, .admitSubscriber,
    .setTerms, .suspend, .resume, .remove, .readSubscriber, .bindSector, .releaseSector, .pinSector, .attach, .detach,
    .readSectors, .demandBatch, .readGrants, .readPlanSummary, .move, .readNotice, .claim, .cancelMove, .setLinkRights,
    .readAttention, .setAttentionMask, .readLinkStatus].map ReqKind.code = List.range 30 ∧
  (∀ (bytes : List Byte) (i n : Nat), n < 8 →
    (bitsOfBytes bytes)[8 * i + n]? = bytes[i]?.map fun b => b.getLsbD (7 - n)) ∧
  ∀ (c : Instr) (kind : ReqKind) (l : Link) (tag : Byte) (body fill : List Byte) (bits : List Bool) (s : State),
    c.request? = some (kind, l, tag, body) → c.wf = true → (s.port l).selected = true →
    (s.port l).timedOut = false →
    (s.port l).bitsIn ++ bits = bitsOfBytes (requestTelegram kind tag body ++ fill) →
    exec (.selectRelease l bits) s = exec c (s.setPort l ((s.port l).shift bits).finish)

/-- The outcome of a select period at its release, line by line of R154's table: a timeout, nothing, FRAMING, FRAMING,
BAD_LENGTH, FRAMING, BAD_CHECKSUM, UNKNOWN_KIND, or the request of the kind taken. A link error touches its own port alone
(R154). Eight bits make a complete byte, and a checksum holds when the sum is 0 modulo 256. -/
def Obligations.ReleaseFollowsTheLines : Prop :=
  (∀ (bytes : List Byte) (rest : List Bool), rest.length < 8 → completeBytes (bitsOfBytes bytes ++ rest) = bytes) ∧
  (∀ bytes : List Byte, byteSum bytes = 0 ↔ byteTotal bytes % 256 = 0) ∧
  ∀ (s : State) (l : Link) (bits : List Bool), (s.port l).selected = true →
    let p := (s.port l).shift bits
    let bytes := completeBytes p.bitsIn
    let fails : Status → Prop := fun st =>
      exec (.selectRelease l bits) s = .next (s.setPort l (faulted p bytes st))
    (p.timedOut = true → fails .holdTimeout) ∧
    (p.timedOut = false →
      (bytes = [] → exec (.selectRelease l bits) s = .next (s.setPort l p.finish)) ∧
      (bytes ≠ [] → p.bitsIn.length % 8 ≠ 0 → fails .framing) ∧
      (bytes ≠ [] → p.bitsIn.length % 8 = 0 →
        (bytes.length < 3 → fails .framing) ∧
        ∀ kind tag len rest, bytes = kind :: tag :: len :: rest →
          (60 < len.toNat → fails .badLength) ∧
          (len.toNat ≤ 60 →
            (bytes.length < 4 + len.toNat → fails .framing) ∧
            (4 + len.toNat ≤ bytes.length →
              (byteSum (bytes.take (4 + len.toNat)) ≠ 0 → fails .badChecksum) ∧
              (byteSum (bytes.take (4 + len.toNat)) = 0 →
                (29 < kind.toNat → fails .unknownKind) ∧
                (kind.toNat ≤ 29 → ∃ c k, c.request? = some (k, l, tag, rest.take len.toNat) ∧
                  k.code = kind.toNat ∧
                  exec (.selectRelease l bits) s = exec c (s.setPort l p.finish)))))))

/-- A period times out at the boundary at which its count reaches the hold limit plus one; from then on the port drives
ones and discards what is clocked in (R155). The row as bits and quiet edges up to the event is log entries 6 and 9.
Before the last edge of the row the period has not timed out. -/
def Obligations.HoldTimeoutEndsThePeriod : Prop :=
  (∀ (s : State) (l : Link) (bits : List Bool), TimingInRange s → (s.port l).selected = true →
    (s.port l).timedOut = false → (s.port l).slots ≤ (s.port l).hold →
    ∃ t, exec (.holdTimeout l bits) s = .next t ∧ (t.port l).timedOut = true ∧
      (t.port l).slots = (t.port l).hold + 1 ∧ (t.port l).hold = (s.port l).hold ∧ (t.port l).selected = true ∧
      (t.port l).bitsIn = (s.port l).bitsIn ++ bits ∧ (t.port l).errors = (s.port l).errors ∧
      ∃ n, t = quietRun n (s.clockLink l bits) ∧
        ∀ m, m < n → ((quietRun m (s.clockLink l bits)).port l).timedOut = false) ∧
  ∀ (p : Port) (bits : List Bool), p.timedOut = true →
    p.shift bits = { p with bitsOut := p.bitsOut ++ List.replicate bits.length true }

/-- FETCH needs no right, has no effect on any block and leaves the response buffer empty, whatever its body; and the
four-byte telegram of zeros is a FETCH (R158). -/
def Obligations.FetchEmptiesTheBuffer : Prop :=
  (∀ (l : Link) (tag : Byte) (body : List Byte) (s : State),
    exec (.fetch l tag body) s = .next (s.setPort l { s.port l with buffer := none })) ∧
  requestTelegram .fetch 0 [] = [0, 0, 0, 0] ∧
  ∀ (l : Link) (s : State), (s.port l).selected = true → (s.port l).timedOut = false → (s.port l).bitsIn = [] →
    ∃ t, exec (.selectRelease l (List.replicate 32 false)) s = .next t ∧ (t.port l).buffer = none ∧
      t = { s with ports := t.ports } ∧ (∀ j, j ≠ l → t.port j = s.port j) ∧
      (t.port l).errors = (s.port l).errors ∧ (t.port l).causes = (s.port l).causes

/-! ### Rights, refusals and frames common to the requests -/

/-- A request is checked for its right and then for a binding; lacking either it changes nothing but its own buffer. The
requests of the last group need no right (R159). -/
def Obligations.RightsAreCheckedFirst : Prop :=
  ∀ (c : Instr) (kind : ReqKind) (l : Link) (tag : Byte) (body : List Byte) (s : State),
    c.request? = some (kind, l, tag, body) →
    let refused : Status → Prop := fun st => exec c s = .next (s.putResponse l (reply kind tag st []))
    (kind ∈ [ReqKind.setPolicy, .setBarMask, .restartScheduling, .setTiming, .pinSector, .setLinkRights,
        .admitSubscriber, .setTerms, .suspend, .resume, .remove] →
      (s.rights l).policy = false → refused .noRight) ∧
    (kind ∈ [ReqKind.bindSector, .releaseSector, .attach, .detach, .demandBatch, .move, .cancelMove, .claim,
        .readNotice] →
      (s.rights l).sector = false → refused .noRight) ∧
    (kind ∈ [ReqKind.readGrants, .readPlanSummary] → (s.rights l).read = false → refused .noRight) ∧
    (kind = .setAttentionMask → (s.rights l).policy = false → (s.rights l).sector = false → refused .noRight) ∧
    (kind ∈ [ReqKind.releaseSector, .attach, .detach, .demandBatch, .move, .cancelMove, .claim, .readNotice] →
      (s.rights l).sector = true → Unbound s l → refused .notBound) ∧
    (kind = .readGrants → (s.rights l).read = true → Unbound s l → refused .notBound) ∧
    (kind ∈ [ReqKind.fetch, .readPolicy, .readTiming, .readSubscriber, .readSectors, .readAttention,
        .readLinkStatus] →
      ∀ t r, exec c s = .next t → (t.port l).buffer = some r → r.status ≠ .noRight ∧ r.status ≠ .notBound)

/-- A refused request changes nothing in any block: the state after it is the state before it with the refusal in the
buffer of its link (R153). -/
def Obligations.RefusalChangesNothing : Prop :=
  ∀ (c : Instr) (kind : ReqKind) (l : Link) (tag : Byte) (body : List Byte) (s t : State) (r : Response),
    c.request? = some (kind, l, tag, body) → exec c s = .next t → (t.port l).buffer = some r →
    16 ≤ statusNo r.status → t = s.putResponse l r

/-- What requests leave alone: the window, the lines and other links' buffers, counters, masks and periods always; the
timing but for SET TIMING's pending set; the build in flight but for a restart; the policy but for the four requests that
set it (R89, R157). -/
def Obligations.RequestsReachOnlyTheirState : Prop :=
  ∀ (c : Instr) (kind : ReqKind) (l : Link) (tag : Byte) (body : List Byte) (s t : State),
    c.request? = some (kind, l, tag, body) → exec c s = .next t →
    t.windowOpen = s.windowOpen ∧ t.powerLow = s.powerLow ∧
    t.ftu = { s.ftu with pendingSet := t.ftu.pendingSet } ∧ (kind ≠ .setTiming → t.ftu = s.ftu) ∧
    (kind ≠ .restartScheduling → t.builder = s.builder ∧ t.live.frame = s.live.frame) ∧
    (kind ∉ [ReqKind.setPolicy, .setBarMask, .pinSector, .setLinkRights] → t.policy = s.policy) ∧
    ∀ j, j ≠ l → t.port j = { s.port j with causes := (t.port j).causes }

/-! ### Requests of the site policy and the timing -/

/-- If any item of a SET POLICY is refused, the whole request is refused and no item is applied; the answer carries the
status and the position of the first refused item, or 255 for a body that is no list of items (R12, R13, R166). That the
position is one byte is deduced (log entry 7). -/
def Obligations.SetPolicyRefusedWhole : Prop :=
  (∀ (l : Link) (tag : Byte) (items : List (Byte × Byte × Byte)) (pos : Nat) (item : Byte × Byte × Byte) (st : Status)
    (s : State), (s.rights l).policy = true → items[pos]? = some item → ItemRefused s item st →
    (∀ q, q < pos → ∀ other st', items[q]? = some other → ¬ItemRefused s other st') →
    exec (.setPolicy l tag (policyBody items)) s =
      .next (s.putResponse l (reply .setPolicy tag st [BitVec.ofNat 8 pos]))) ∧
  ∀ (l : Link) (tag : Byte) (body : List Byte) (s : State), (s.rights l).policy = true → body.length % 3 ≠ 0 →
    exec (.setPolicy l tag body) s = .next (s.putResponse l (reply .setPolicy tag .range [255]))

/-- If no item of a SET POLICY is refused, every item is applied in list order: each parameter takes the clamped value of
the last item that names it, the window pair becomes pending, N acts on the sectors at once, and the answer carries each
value stored (R12, R13, R14). -/
def Obligations.SetPolicyStoresEveryItem : Prop :=
  ∀ (l : Link) (tag : Byte) (items : List (Byte × Byte × Byte)) (s : State), (s.rights l).policy = true →
    (∀ item ∈ items, ∀ st, ¬ItemRefused s item st) →
    ∃ u : State, exec (.setPolicy l tag (policyBody items)) s =
        .next (u.putResponse l (reply .setPolicy tag (if items.any itemClamped = true then .okClamped else .ok)
          (items.flatMap itemStored))) ∧
      u.policy = { s.policy with
        n := picked8 1 1 3 s.policy.n items
        d := picked8 2 4 12 s.policy.d items
        pendingWindow := match lastItem 3 items with
          | some v => some { o := v.1.toNat, w := v.2.toNat }
          | none => s.policy.pendingWindow
        g := picked8 4 0 20 s.policy.g items
        umin := picked8 5 1 20 s.policy.umin items
        z := picked16 6 0 1023 s.policy.z items
        e := picked16 7 0 1023 s.policy.e items
        bn := picked8 8 0 216 s.policy.bn items
        bl := picked8 9 0 216 s.policy.bl items
        m := picked8 10 1 15 s.policy.m items
        hlim := picked8 11 1 63 s.policy.hlim items
        alim := picked8 12 1 255 s.policy.alim items
        hold := picked8 13 1 16 s.policy.hold items
        adjacency := match lastItem 14 items with
          | some v => { p01 := v.1.getLsbD 0, p12 := v.1.getLsbD 1, p02 := v.1.getLsbD 2 }
          | none => s.policy.adjacency } ∧
      (∀ k, u.sector k = (items.filter fun it => decide (it.1.toNat = 1)).foldl
        (fun v it =>
          if max 1 (min 3 it.2.1.toNat) ≤ sectorNo k then { v with state := .disabled }
          else if v.state = .disabled then
            { v with state := .unbound, map := [], ring := [], dlHead := none, ulHead := none }
          else v) (s.sector k)) ∧
      ((∃ k, (u.sector k).state ≠ (s.sector k).state) → ∀ j, (u.port j).causes.sectorState = true) ∧
      ((∀ item ∈ items, item.1.toNat = 1 →
          ∀ k, (s.sector k).state = .disabled ↔ max 1 (min 3 item.2.1.toNat) ≤ sectorNo k) →
        ∀ j, (u.port j).causes.sectorState = (s.port j).causes.sectorState) ∧
      (∀ j, u.port j = { s.port j with causes := { (s.port j).causes with
        sectorState := (u.port j).causes.sectorState } }) ∧
      u = { s with policy := u.policy, sectors := u.sectors, ports := u.ports }

/-- SET BAR MASK replaces one sector's mask whole, tile t being bit t mod 8 of byte t / 8, and nothing else; a sector
above 2 or another length is refused RANGE (R15, R166). -/
def Obligations.SetBarMaskReplacesOneMask : Prop :=
  ∀ (l : Link) (tag : Byte) (body : List Byte) (s : State), (s.rights l).policy = true →
    (body.length ≠ 13 → exec (.setBarMask l tag body) s = .next (s.putResponse l (reply .setBarMask tag .range []))) ∧
    ∀ kb mask, body = kb :: mask → mask.length = 12 →
      (2 < kb.toNat → exec (.setBarMask l tag body) s = .next (s.putResponse l (reply .setBarMask tag .range []))) ∧
      ∀ k, sectorNo k = kb.toNat → ∃ m : TileMask,
        exec (.setBarMask l tag body) s = .next
          ({ s with policy := { s.policy with masks := s.policy.masks.set k m } }.putResponse l
            (reply .setBarMask tag .ok [])) ∧
        ∀ tile, tile < 96 → m.getLsbD tile = (mask[tile / 8]?.getD 0).getLsbD (tile % 8)

/-- RESTART SCHEDULING frees every record and keeps its generation, empties maps, rings, queues and plans, makes every bound
sector SILENT with its count at M, abandons the build, clears PLAN READY and HANDOVER, raises SECTOR STATE if a sector was
PRESENT, and leaves policy, timing, window and bindings alone (R17, R53, R71, R109, R135, R150, R165). -/
def Obligations.RestartClearsScheduling : Prop :=
  ∀ (l : Link) (tag : Byte) (s : State), (s.rights l).policy = true →
    (∀ body, body ≠ [] → exec (.restartScheduling l tag body) s =
      .next (s.putResponse l (reply .restartScheduling tag .range []))) ∧
    ∃ u : State, exec (.restartScheduling l tag []) s = .next (u.putResponse l (reply .restartScheduling tag .ok [])) ∧
      (∀ i, u.record i = { generation := (s.record i).generation, occupant := none }) ∧
      (∀ k, (s.sector k).state.link? = none →
        u.sector k = { s.sector k with map := [], ring := [], dlHead := none, ulHead := none }) ∧
      (∀ k j, (s.sector k).state.link? = some j →
        u.sector k = { state := .silent j, missed := s.policy.m, batchSeen := false, map := [], ring := [],
                       dlHead := none, ulHead := none }) ∧
      (∀ k, u.queue k = []) ∧ u.live = { frame := s.live.frame, plan := .empty false } ∧
      (∀ j, u.port j = { s.port j with causes := { (s.port j).causes with
        planReady := false, handover := false
        sectorState := (s.port j).causes.sectorState ||
          allSectors.any fun k => (s.sector k).state.isPresent } }) ∧
      u = { s with table := u.table, sectors := u.sectors, queues := u.queues, builder := none, live := u.live,
                   next := none, ports := u.ports }

/-- SET TIMING stores its three values, each clamped, as the pending set, and changes nothing else (R31). -/
def Obligations.SetTimingStoresPendingSet : Prop :=
  ∀ (l : Link) (tag : Byte) (s : State), (s.rights l).policy = true →
    (∀ body, body.length ≠ 6 → exec (.setTiming l tag body) s =
      .next (s.putResponse l (reply .setTiming tag .range []))) ∧
    ∀ p0 p1 p2 t0 t1 k : Byte,
      let p := p0.toNat + 256 * p1.toNat + 65536 * p2.toNat
      let t := t0.toNat + 256 * t1.toNat
      let v : TimingSet := { p := max 16384 (min 1048575 p), t := min 4095 t, k := max 1 (min 15 k.toNat) }
      exec (.setTiming l tag [p0, p1, p2, t0, t1, k]) s =
        .next ({ s with ftu := { s.ftu with pendingSet := some v } }.putResponse l
          (reply .setTiming tag
            (if 16384 ≤ p ∧ p ≤ 1048575 ∧ t ≤ 4095 ∧ 1 ≤ k.toNat ∧ k.toNat ≤ 15 then .ok else .okClamped)
            (bytes3 v.p ++ bytes2 v.t ++ [BitVec.ofNat 8 v.k])))

/-! ### Requests of the subscriber records -/

/-- READ POLICY, READ SUBSCRIBER and READ SECTORS change nothing but their own buffer, and report what they name: the
parameters, the masks or the rights and pins; every field of the record, an absent one as 0; the three sectors (R16, R52,
R69; the order of the bodies that R167 does not fix, and the one byte for the power-low level, 1 for asserted, are log
entry 7). The bits of the rights, the adjacency value and the masks are those of R166, and bits that name nothing are sent
as 0. -/
def Obligations.ReadsReportAndChangeNothing : Prop :=
  (∀ r : Rights, FieldBits (putRights r) [r.policy, r.sector, r.read]) ∧
  (∀ a : Adjacency, FieldBits (putAdjacency a) [a.between .s0 .s1, a.between .s1 .s2, a.between .s0 .s2]) ∧
  (∀ m : TileMask, (putMask m).length = 12 ∧
    ∀ tile, tile < 96 → ((putMask m)[tile / 8]?.getD 0).getLsbD (tile % 8) = m.getLsbD tile) ∧
  (∀ i0 i1 i2 : Byte, field24 i0 i1 i2 = i0.toNat + 256 * i1.toNat + 65536 * i2.toNat) ∧
  (sectorNo .s0 = 0 ∧ sectorNo .s1 = 1 ∧ sectorNo .s2 = 2) ∧
  ∀ (l : Link) (tag : Byte) (s : State),
    (∀ body, (body.length ≠ 1 ∨ ∃ part : Byte, body = [part] ∧ 2 < part.toNat) →
      exec (.readPolicy l tag body) s = .next (s.putResponse l (reply .readPolicy tag .range []))) ∧
    (let p := s.policy
     let held : Window := p.pendingWindow.getD { o := 0, w := 0 }
     exec (.readPolicy l tag [0]) s = .next (s.putResponse l (reply .readPolicy tag .ok
      ([BitVec.ofNat 8 p.n, BitVec.ofNat 8 p.d, BitVec.ofNat 8 p.window.o, BitVec.ofNat 8 p.window.w,
        BitVec.ofNat 8 p.g, BitVec.ofNat 8 p.umin] ++ bytes2 p.z ++ bytes2 p.e ++
       [BitVec.ofNat 8 p.bn, BitVec.ofNat 8 p.bl, BitVec.ofNat 8 p.m, BitVec.ofNat 8 p.hlim, BitVec.ofNat 8 p.alim,
        BitVec.ofNat 8 p.hold] ++ putAdjacency p.adjacency ++
       [if p.pendingWindow = none then 0 else 1, BitVec.ofNat 8 held.o, BitVec.ofNat 8 held.w,
        if s.powerLow = true then 1 else 0])))) ∧
    exec (.readPolicy l tag [1]) s = .next (s.putResponse l (reply .readPolicy tag .ok
      (putMask (s.policy.masks.get .s0) ++ putMask (s.policy.masks.get .s1) ++ putMask (s.policy.masks.get .s2)))) ∧
    exec (.readPolicy l tag [2]) s = .next (s.putResponse l (reply .readPolicy tag .ok
      (putRights (s.rights .l0) ++ putRights (s.rights .l1) ++ putRights (s.rights .l2) ++ putRights (s.rights .l3) ++
       [linkByte (s.policy.pins.get .s0), linkByte (s.policy.pins.get .s1), linkByte (s.policy.pins.get .s2)]))) ∧
    (∀ body, body.length ≠ 3 →
      exec (.readSubscriber l tag body) s = .next (s.putResponse l (reply .readSubscriber tag .range []))) ∧
    (∀ i0 i1 i2 : Byte, IdUnused s (field24 i0 i1 i2) →
      exec (.readSubscriber l tag [i0, i1, i2]) s =
        .next (s.putResponse l (reply .readSubscriber tag .noSubscriber []))) ∧
    (∀ (i0 i1 i2 : Byte) (i : RecIdx) (o : Occupant), Holds s i o → o.id = field24 i0 i1 i2 →
      ∃ state home handle target frames : Nat,
        (o.attachment = .unbound → state = 1 ∧ home = 0 ∧ handle = 0 ∧ target = 0 ∧ frames = 0) ∧
        (∀ k h, o.attachment = .active k h → state = 2 ∧ home = sectorNo k ∧ handle = h ∧ target = 0 ∧ frames = 0) ∧
        (∀ k h t n, o.attachment = .moving k h t n →
          state = 3 ∧ home = sectorNo k ∧ handle = h ∧ target = sectorNo t ∧ frames = n) ∧
        exec (.readSubscriber l tag [i0, i1, i2]) s = .next (s.putResponse l (reply .readSubscriber tag .ok
          (recordBytes s i ++ [BitVec.ofNat 8 state, if o.suspended = true then 1 else 0] ++ bytes3 o.id ++
           termsBytes o.terms ++ [BitVec.ofNat 8 home, BitVec.ofNat 8 handle, BitVec.ofNat 8 target,
            BitVec.ofNat 8 frames] ++ bytes2 o.demandDL ++ bytes2 o.demandUL ++ [BitVec.ofNat 8 o.cls] ++
           bytes2 o.ta ++ [BitVec.ofNat 8 o.creditDL, BitVec.ofNat 8 o.creditUL, BitVec.ofNat 8 o.age])))) ∧
    (∀ body, body ≠ [] →
      exec (.readSectors l tag body) s = .next (s.putResponse l (reply .readSectors tag .range []))) ∧
    ∃ b0 b1 b2 : List Byte, SectorBytes s .s0 b0 ∧ SectorBytes s .s1 b1 ∧ SectorBytes s .s2 b2 ∧
      exec (.readSectors l tag []) s = .next (s.putResponse l (reply .readSectors tag .ok (b0 ++ b1 ++ b2)))

/-- ADMIT: id 0 is refused RANGE, a held id DUPLICATE with its index and generation, a full table TABLE_FULL; otherwise the
FREE record of the lowest index is ADMITTED under the next generation with its terms clamped and all else 0 (R44, R45). -/
def Obligations.AdmitTakesLowestFreeRecord : Prop :=
  ∀ (l : Link) (tag : Byte) (s : State), (s.rights l).policy = true →
    (∀ body, body.length ≠ 7 →
      exec (.admitSubscriber l tag body) s = .next (s.putResponse l (reply .admitSubscriber tag .range []))) ∧
    ∀ i0 i1 i2 w rd ru cap : Byte,
      let id := i0.toNat + 256 * i1.toNat + 65536 * i2.toNat
      let c : Instr := .admitSubscriber l tag [i0, i1, i2, w, rd, ru, cap]
      (id = 0 → exec c s = .next (s.putResponse l (reply .admitSubscriber tag .range []))) ∧
      (id ≠ 0 →
        (∀ i o, Holds s i o → o.id = id →
          exec c s = .next (s.putResponse l (reply .admitSubscriber tag .duplicate (recordBytes s i)))) ∧
        (IdUnused s id → (∀ j, s.occupant j ≠ none) →
          exec c s = .next (s.putResponse l (reply .admitSubscriber tag .tableFull []))) ∧
        (IdUnused s id → ∀ i, s.occupant i = none → (∀ j, j < i → s.occupant j ≠ none) →
          let gen := ((s.record i).generation + 1) % 256
          let v : Terms := { weight := max 1 (min 15 w.toNat), resDL := min 4 rd.toNat, resUL := min 4 ru.toNat
                             cap := max 1 (min 32 cap.toNat) }
          let fresh : Occupant :=
            { suspended := false, id := id, terms := v, attachment := .unbound, demandDL := 0, demandUL := 0, cls := 0
              ta := 0, creditDL := 0, creditUL := 0, age := 0, lapse := none }
          exec c s = .next ((s.setRecord i { generation := gen, occupant := some fresh }).putResponse l
            (reply .admitSubscriber tag
              (if 1 ≤ w.toNat ∧ w.toNat ≤ 15 ∧ rd.toNat ≤ 4 ∧ ru.toNat ≤ 4 ∧ 1 ≤ cap.toNat ∧ cap.toNat ≤ 32 then .ok
                else .okClamped)
              ([BitVec.ofNat 8 i.val, BitVec.ofNat 8 gen] ++ termsBytes v)))))

/-- SET TERMS replaces the terms and lowers each credit to 4 times the new weight; SUSPEND sets the flag and marks every
grant for the record void; RESUME clears the flag and voids nothing back. An unknown id is refused NO_SUBSCRIBER (R43,
R46, R48, R49). -/
def Obligations.TermsAndSuspensionOfARecord : Prop :=
  ∀ (l : Link) (tag : Byte) (s : State), (s.rights l).policy = true →
    (∀ body, body.length ≠ 7 → exec (.setTerms l tag body) s = .next (s.putResponse l (reply .setTerms tag .range []))) ∧
    (∀ body, body.length ≠ 3 →
      exec (.suspend l tag body) s = .next (s.putResponse l (reply .suspend tag .range [])) ∧
      exec (.resume l tag body) s = .next (s.putResponse l (reply .resume tag .range []))) ∧
    ∀ i0 i1 i2 w rd ru cap : Byte,
      let id := i0.toNat + 256 * i1.toNat + 65536 * i2.toNat
      let v : Terms := { weight := max 1 (min 15 w.toNat), resDL := min 4 rd.toNat, resUL := min 4 ru.toNat
                         cap := max 1 (min 32 cap.toNat) }
      (IdUnused s id →
        exec (.setTerms l tag [i0, i1, i2, w, rd, ru, cap]) s =
          .next (s.putResponse l (reply .setTerms tag .noSubscriber [])) ∧
        exec (.suspend l tag [i0, i1, i2]) s = .next (s.putResponse l (reply .suspend tag .noSubscriber [])) ∧
        exec (.resume l tag [i0, i1, i2]) s = .next (s.putResponse l (reply .resume tag .noSubscriber []))) ∧
      ∀ i o, Holds s i o → o.id = id →
        exec (.setTerms l tag [i0, i1, i2, w, rd, ru, cap]) s =
          .next ((s.setOccupant i (some { o with
              terms := v, creditDL := min o.creditDL (4 * v.weight), creditUL := min o.creditUL (4 * v.weight)
              })).putResponse l
            (reply .setTerms tag
              (if 1 ≤ w.toNat ∧ w.toNat ≤ 15 ∧ rd.toNat ≤ 4 ∧ ru.toNat ≤ 4 ∧ 1 ≤ cap.toNat ∧ cap.toNat ≤ 32 then .ok
                else .okClamped)
              (recordBytes s i ++ termsBytes v))) ∧
        exec (.suspend l tag [i0, i1, i2]) s =
          .next ({ s.setOccupant i (some { o with suspended := true }) with
              live := liveVoided (fun _ => isFor i (s.record i).generation) s.live
              next := nextVoided (fun _ => isFor i (s.record i).generation) s.next
              }.putResponse l (reply .suspend tag .ok (recordBytes s i))) ∧
        exec (.resume l tag [i0, i1, i2]) s =
          .next ((s.setOccupant i (some { o with suspended := false })).putResponse l
            (reply .resume tag .ok (recordBytes s i)))

/-- REMOVE ends the record's move, takes it out of its home's map and ring, marks its grants void and frees it, its
generation kept; no other record is touched (R50). -/
def Obligations.RemoveFreesTheRecord : Prop :=
  ∀ (l : Link) (tag i0 i1 i2 : Byte) (s : State), (s.rights l).policy = true →
    (∀ body, body.length ≠ 3 → exec (.remove l tag body) s = .next (s.putResponse l (reply .remove tag .range []))) ∧
    (IdUnused s (field24 i0 i1 i2) →
      exec (.remove l tag [i0, i1, i2]) s = .next (s.putResponse l (reply .remove tag .noSubscriber []))) ∧
    ∀ i o, Holds s i o → o.id = field24 i0 i1 i2 →
      ∃ (u : State) (was : Byte),
        exec (.remove l tag [i0, i1, i2]) s =
          .next (u.putResponse l (reply .remove tag .ok (recordBytes s i ++ [was]))) ∧
        (o.attachment = .unbound → was = 1) ∧ (∀ k h, o.attachment = .active k h → was = 2) ∧
        (∀ k h t n, o.attachment = .moving k h t n → was = 3) ∧
        u.record i = { generation := (s.record i).generation, occupant := none } ∧
        (∀ j, j ≠ i → u.record j = s.record j) ∧
        (o.attachment.place? = none → u.sectors = s.sectors) ∧
        (∀ k h, o.attachment.place? = some (k, h) → u.sectors = s.sectors.set k ((s.sector k).leave h i)) ∧
        NoticeWithdrawn s i o.attachment u ∧ OnlyHandover s u ∧
        u = { s with table := u.table, sectors := u.sectors, queues := u.queues, ports := u.ports
                     live := liveVoided (fun _ => isFor i (s.record i).generation) s.live
                     next := nextVoided (fun _ => isFor i (s.record i).generation) s.next }

/-! ### Requests of the sectors -/

/-- BIND SECTOR is decided case by case: RANGE, already held, SECTOR_DISABLED, SECTOR_PINNED, SECTOR_TAKEN, IN_USE, and
otherwise the sector is SILENT, bound to the link, with its count at M, its flag clear and SECTOR STATE raised. The state
byte for a sector that does not exist is open (log entry 1), and the order of an answer's values is deduced (log entry 7)
(R55, R56). -/
def Obligations.BindSectorCases : Prop :=
  ∀ (l : Link) (tag : Byte) (s : State), (s.rights l).sector = true →
    (∀ body, body.length ≠ 1 →
      exec (.bindSector l tag body) s = .next (s.putResponse l (reply .bindSector tag .range []))) ∧
    (∀ kb : Byte, 2 < kb.toNat → ∃ b : Byte,
      exec (.bindSector l tag [kb]) s = .next (s.putResponse l (reply .bindSector tag .range [kb, b]))) ∧
    ∀ k : SectorId,
      let c : Instr := .bindSector l tag [BitVec.ofNat 8 (sectorNo k)]
      let tail : List Byte := [BitVec.ofNat 8 (sectorNo k), BitVec.ofNat 8 (sectorStateNo (s.sector k).state)]
      let v := s.sector k
      (v.state.link? = some l → exec c s = .next (s.putResponse l (reply .bindSector tag .ok tail))) ∧
      (v.state.link? ≠ some l →
        (v.state = .disabled → exec c s = .next (s.putResponse l (reply .bindSector tag .sectorDisabled tail))) ∧
        (v.state ≠ .disabled →
          (∀ p, s.policy.pins.get k = some p → p ≠ l →
            exec c s = .next (s.putResponse l (reply .bindSector tag .sectorPinned tail))) ∧
          ((∀ p, s.policy.pins.get k = some p → p = l) →
            (∀ j, v.state.link? = some j →
              exec c s = .next (s.putResponse l
                (reply .bindSector tag .sectorTaken (linkByte (some j) :: tail)))) ∧
            (v.state.link? = none →
              (∀ held, BoundTo s l held →
                exec c s = .next (s.putResponse l
                  (reply .bindSector tag .inUse (BitVec.ofNat 8 (sectorNo held) :: tail)))) ∧
              (Unbound s l → ∃ u : State,
                exec c s = .next (u.putResponse l
                  (reply .bindSector tag .ok [BitVec.ofNat 8 (sectorNo k), 2])) ∧
                u.sector k = { v with state := .silent l, missed := s.policy.m, batchSeen := false } ∧
                (∀ j, j ≠ k → u.sector j = s.sector j) ∧
                (∀ j, u.port j = { s.port j with causes := { (s.port j).causes with sectorState := true } }) ∧
                u = { s with sectors := u.sectors, ports := u.ports })))))

/-- RELEASE SECTOR ends the link's binding and answers the sector and the moves cancelled; PIN SECTOR stores the pin and
ends the binding of a sector bound to a link other than the pinned one, and no other (R58, R59, R60). -/
def Obligations.ReleaseAndPinEndBindings : Prop :=
  ∀ (l : Link) (tag : Byte) (s : State),
    ((s.rights l).sector = true → ∀ k, BoundTo s l k →
      (∀ body, body ≠ [] →
        exec (.releaseSector l tag body) s = .next (s.putResponse l (reply .releaseSector tag .range []))) ∧
      ∃ u : State, Released s k u ∧
        exec (.releaseSector l tag []) s = .next (u.putResponse l (reply .releaseSector tag .ok
          [BitVec.ofNat 8 (sectorNo k), BitVec.ofNat 8 (allRecords.countP fun i =>
            (s.occupant i).any fun o => o.attachment.movesTo k)]))) ∧
    ((s.rights l).policy = true →
      (∀ body, (body.length ≠ 2 ∨ ∃ kb lb : Byte, body = [kb, lb] ∧ (2 < kb.toNat ∨ (3 < lb.toNat ∧ lb ≠ 255))) →
        exec (.pinSector l tag body) s = .next (s.putResponse l (reply .pinSector tag .range []))) ∧
      ∀ (k : SectorId) (pin : Option Link),
        let pinByte : Byte := match pin with
          | some p => linkByte (some p)
          | none => 255
        let c : Instr := .pinSector l tag [BitVec.ofNat 8 (sectorNo k), pinByte]
        let pinned : State := { s with policy := { s.policy with pins := s.policy.pins.set k pin } }
        ((∃ p j, pin = some p ∧ (s.sector k).state.link? = some j ∧ p ≠ j) →
          ∃ u : State, Released pinned k u ∧
            exec c s = .next (u.putResponse l (reply .pinSector tag .ok [BitVec.ofNat 8 (sectorNo k), pinByte, 1]))) ∧
        ((∀ p j, pin = some p → (s.sector k).state.link? = some j → p = j) →
          exec c s = .next (pinned.putResponse l
            (reply .pinSector tag .ok [BitVec.ofNat 8 (sectorNo k), pinByte, 0]))))

/-- ATTACH is checked in order: RANGE, NO_SUBSCRIBER, BOUND_ELSEWHERE, HANDLE_IN_USE; otherwise the record is ACTIVE in
the link's sector under the handle, last in its ring, under both heads if the ring was empty, with demands, credits,
class, TA and age 0 and its terms and flag kept (R62, R63, R67). -/
def Obligations.AttachBindsTheRecord : Prop :=
  ∀ (l : Link) (k : SectorId) (tag : Byte) (s : State), (s.rights l).sector = true → BoundTo s l k →
    (∀ body, body.length ≠ 4 → exec (.attach l tag body) s = .next (s.putResponse l (reply .attach tag .range []))) ∧
    ∀ i0 i1 i2 h : Byte,
      let c : Instr := .attach l tag [i0, i1, i2, h]
      (h.toNat = 0 ∨ 127 < h.toNat → exec c s = .next (s.putResponse l (reply .attach tag .range []))) ∧
      (1 ≤ h.toNat → h.toNat ≤ 127 →
        (IdUnused s (field24 i0 i1 i2) → exec c s = .next (s.putResponse l (reply .attach tag .noSubscriber []))) ∧
        ∀ i o, Holds s i o → o.id = field24 i0 i1 i2 →
          (∀ home hh, o.attachment.place? = some (home, hh) →
            exec c s = .next (s.putResponse l (reply .attach tag .boundElsewhere
              [BitVec.ofNat 8 (sectorNo home), BitVec.ofNat 8 hh]))) ∧
          (o.attachment = .unbound →
            (∀ e, s.handleEntry k h.toNat = some e →
              exec c s = .next (s.putResponse l (reply .attach tag .handleInUse [BitVec.ofNat 8 e.index.val]))) ∧
            ((∀ e ∈ (s.sector k).map, e.handle ≠ h.toNat) →
              ∃ (u : State) (m : List MapEntry),
                exec c s = .next (u.putResponse l (reply .attach tag .ok (recordBytes s i))) ∧
                (∀ e, e ∈ m ↔ e ∈ (s.sector k).map ∨
                  e = { handle := h.toNat, index := i, generation := (s.record i).generation }) ∧
                u = (s.setSector k { s.sector k with
                    map := m
                    ring := (s.sector k).ring ++ [i]
                    dlHead := if (s.sector k).ring = [] then some i else (s.sector k).dlHead
                    ulHead := if (s.sector k).ring = [] then some i else (s.sector k).ulHead }).setOccupant i
                  (some { o with
                    attachment := .active k h.toNat, demandDL := 0, demandUL := 0, creditDL := 0, creditUL := 0
                    cls := 0, ta := 0, age := 0 }))))

/-- DETACH ends the record's move, takes its handle out of the map and the record out of the ring, a head on it moving to
its successor, and leaves it ADMITTED with credits and demands 0; its grants are void (R64, R68). -/
def Obligations.DetachReturnsToAdmitted : Prop :=
  ∀ (l : Link) (k : SectorId) (tag : Byte) (s : State), (s.rights l).sector = true → BoundTo s l k →
    (∀ body, body.length ≠ 1 → exec (.detach l tag body) s = .next (s.putResponse l (reply .detach tag .range []))) ∧
    ∀ h : Byte,
      (h.toNat = 0 ∨ 127 < h.toNat →
        exec (.detach l tag [h]) s = .next (s.putResponse l (reply .detach tag .range []))) ∧
      (1 ≤ h.toNat → h.toNat ≤ 127 →
        (s.lookup k h.toNat = none →
          exec (.detach l tag [h]) s = .next (s.putResponse l (reply .detach tag .noHandle []))) ∧
        ∀ i o, s.lookup k h.toNat = some (i, o) →
          ∃ u : State,
            exec (.detach l tag [h]) s = .next (u.putResponse l (reply .detach tag .ok
              (recordBytes s i ++ [if o.attachment.move? = none then 0 else 1]))) ∧
            u.record i = { generation := (s.record i).generation
                           occupant := some { o with
                             attachment := .unbound, demandDL := 0, demandUL := 0, creditDL := 0, creditUL := 0
                             lapse := none } } ∧
            (∀ j, j ≠ i → u.record j = s.record j) ∧
            (∀ j, j ≠ k → u.sector j = s.sector j) ∧
            (∀ e, e ∈ (u.sector k).map ↔ e ∈ (s.sector k).map ∧ e.handle ≠ h.toNat) ∧
            (u.sector k).state = (s.sector k).state ∧ (u.sector k).missed = (s.sector k).missed ∧
            (u.sector k).batchSeen = (s.sector k).batchSeen ∧
            (∀ a b, (s.sector k).ring = a ++ i :: b → i ∉ a → i ∉ b →
              (u.sector k).ring = a ++ b ∧
              ∀ dir, (u.sector k).head dir =
                if (s.sector k).head dir = some i then (b ++ a).head? else (s.sector k).head dir) ∧
            NoticeWithdrawn s i o.attachment u ∧ OnlyHandover s u ∧
            u = { s with table := u.table, sectors := u.sectors, queues := u.queues, ports := u.ports
                         live := liveVoided (fun _ => isFor i (s.record i).generation) s.live
                         next := nextVoided (fun _ => isFor i (s.record i).generation) s.next })

/-- DEMAND BATCH: a count that its entries do not match is refused RANGE, and a closed window WINDOW_CLOSED. A batch that is
taken sets the flag; each entry whose handle is in the map is accepted, and of several for a record the last stands, with
class clamped to 7 and TA to E, and age 0; the answer counts them (R74 to R78). -/
def Obligations.DemandBatchReports : Prop :=
  ∀ (l : Link) (k : SectorId) (tag : Byte) (s : State), (s.rights l).sector = true → BoundTo s l k →
    (∀ body, (body = [] ∨ ∃ (c : Byte) (rest : List Byte), body = c :: rest ∧
        (7 < c.toNat ∨ rest.length ≠ 8 * c.toNat)) →
      exec (.demandBatch l tag body) s = .next (s.putResponse l (reply .demandBatch tag .range []))) ∧
    ∀ entries : List ReportEntry, entries.length ≤ 7 → (∀ r ∈ entries, entryFits r) →
      let c : Instr := .demandBatch l tag (BitVec.ofNat 8 entries.length :: entries.flatMap entryBytes)
      let names : ReportEntry → Option RecIdx := fun r => (s.lookup k r.handle).map Prod.fst
      let rejected := entries.countP fun r => (names r).isNone
      (s.windowOpen = false →
        exec c s = .next (s.putResponse l (reply .demandBatch tag .windowClosed []))) ∧
      (s.windowOpen = true → ∃ u : State,
        exec c s = .next (u.putResponse l (reply .demandBatch tag (if rejected = 0 then .ok else .part)
          [BitVec.ofNat 8 (entries.countP fun r => (names r).isSome), BitVec.ofNat 8 rejected,
            BitVec.ofNat 8 (entries.countP fun r =>
              (names r).isSome && (decide (7 < r.cls) || decide (s.policy.e < r.ta))),
            BitVec.ofNat 8 ((entries.findIdx? fun r => (names r).isNone).getD 255)])) ∧
        u.sector k = { s.sector k with batchSeen := true } ∧ (∀ j, j ≠ k → u.sector j = s.sector j) ∧
        (∀ i, (u.record i).generation = (s.record i).generation) ∧
        (∀ i, s.occupant i = none → u.occupant i = none) ∧
        (∀ i o, s.occupant i = some o →
          let mine := (entries.filter fun r => decide (names r = some i)).getLast?
          (mine = none → u.occupant i = some o) ∧
          ∀ r, mine = some r → u.occupant i = some { o with
            demandDL := r.demandDL, demandUL := r.demandUL, cls := min r.cls 7, ta := min r.ta s.policy.e
            age := 0 }) ∧
        u = { s with table := u.table, sectors := u.sectors })

/-! ### Requests of the plans -/

/-- READ GRANTS and READ PLAN SUMMARY look at LIVE, then a BUILT NEXT, then the build in flight: NOT_YET, else STALE. A read
that is answered OK clears PLAN READY when it names the ready frame. Grants come whole and in order from the first index,
as many as fit; an entry is the grant's fields and a pair for each slot, naming the grant's tiles; and a summary is the plan
record without its lists (R130, R131, R132, R134, R167, R168). -/
def Obligations.PlanReadsFindTheFrame : Prop :=
  (∀ (l : Link) (k : SectorId) (tag f0 f1 first : Byte) (s : State),
    let frame := (f0.toNat + 256 * f1.toNat) % 4096
    let grants : Instr := .readGrants l tag [f0, f1, first]
    let summary : Instr := .readPlanSummary l tag [f0, f1]
    let cleared : State := if (s.port l).readyFrame = frame then
        s.setPort l { s.port l with causes := { (s.port l).causes with planReady := false } }
      else s
    let found : Nat → Nat → Bool → Option Plan → Prop := fun shown status overrun plan =>
      ((s.rights l).read = true → BoundTo s l k →
        let list := match plan.bind fun p => p.sectors.get k with
          | some sp => sp.grants
          | none => []
        let rest := list.drop first.toNat
        ∃ n, n ≤ rest.length ∧ ((rest.take n).map fun g => (grantEntry g).length).sum ≤ 54 ∧
          (n < rest.length → 54 < ((rest.take (n + 1)).map fun g => (grantEntry g).length).sum) ∧
          exec grants s = .next (cleared.putResponse l (reply .readGrants tag .ok
            (bytes2 shown ++
              [BitVec.ofNat 8 (status + (if overrun = true then 4 else 0) +
                if (plan.bind fun p => p.sectors.get k).isSome = true then 8 else 0),
                BitVec.ofNat 8 list.length, BitVec.ofNat 8 n, BitVec.ofNat 8 (min (first.toNat + n) list.length)] ++
              (rest.take n).flatMap grantEntry)))) ∧
      ((s.rights l).read = true →
        exec summary s = .next (cleared.putResponse l (reply .readPlanSummary tag .ok
          (planSummaryBytes shown status overrun plan))))
    let refused : Status → Prop := fun st =>
      ((s.rights l).read = true → BoundTo s l k →
        exec grants s = .next (s.putResponse l (reply .readGrants tag st []))) ∧
      ((s.rights l).read = true →
        exec summary s = .next (s.putResponse l (reply .readPlanSummary tag st [])))
    (s.live.frame = frame →
      (∀ overrun, s.live.plan = .empty overrun → found frame 0 overrun none) ∧
      (∀ p, s.live.plan = .built p → found frame 1 false (some p)) ∧
      ∀ p, s.live.plan = .repeated p → found frame 2 true (some p)) ∧
    (s.live.frame ≠ frame →
      (∀ n, s.next = some n → n.frame = frame → found frame 1 false (some n.plan)) ∧
      ((∀ n ∈ s.next, n.frame ≠ frame) →
        ((∃ b ∈ s.builder, b.snapshot.frame = frame) → refused .notYet) ∧
        ((∀ b ∈ s.builder, b.snapshot.frame ≠ frame) → refused .stale)))) ∧
  (∀ (l : Link) (k : SectorId) (tag : Byte) (body : List Byte) (s : State), (s.rights l).read = true →
    (body.length ≠ 3 → BoundTo s l k →
      exec (.readGrants l tag body) s = .next (s.putResponse l (reply .readGrants tag .range []))) ∧
    (body.length ≠ 2 →
      exec (.readPlanSummary l tag body) s = .next (s.putResponse l (reply .readPlanSummary tag .range [])))) ∧
  ∀ g : Grant, (∀ t ∈ g.tiles, t < 96) →
    ∃ (slots : List Nat) (set : Nat → Nat),
      grantEntry g = [BitVec.ofNat 8 g.index.val, BitVec.ofNat 8 g.generation, BitVec.ofNat 8 g.handle,
          BitVec.ofNat 8 ((if g.dir = .ul then 1 else 0) + (if g.trimmed = true then 2 else 0) +
            (if g.void = true then 4 else 0) + 16 * slots.length)] ++
        bytes2 (g.nR + 8 * g.nS + 512 * g.nL) ++ bytes2 g.bytes ++
        slots.flatMap (fun slot => [BitVec.ofNat 8 slot, BitVec.ofNat 8 (set slot)]) ∧
      slots.Pairwise (· < ·) ∧ (∀ slot, slot ∈ slots ↔ ∃ t ∈ g.tiles, t / 6 = slot) ∧
      ∀ slot, set slot < 64 ∧ ∀ n, n < 6 → ((set slot).testBit n = true ↔ 6 * slot + n ∈ g.tiles)

/-! ### Requests of the moves -/

/-- MOVE is checked in order: RANGE, NO_HANDLE, NOT_ACTIVE, SUSPENDED, RANGE, TARGET_SILENT, NOTICE_FULL; otherwise the
record is MOVING with Hlim frames, its lapse mark none, its notice last in the target's queue and HANDOVER pending on the
target's link (R138, R139, R140). -/
def Obligations.MoveOffersTheRecord : Prop :=
  ∀ (l : Link) (k : SectorId) (tag : Byte) (s : State), (s.rights l).sector = true → BoundTo s l k →
    (∀ body, body.length ≠ 2 → exec (.move l tag body) s = .next (s.putResponse l (reply .move tag .range []))) ∧
    (∀ h tb : Byte, (h.toNat = 0 ∨ 127 < h.toNat ∨ 2 < tb.toNat) →
      exec (.move l tag [h, tb]) s = .next (s.putResponse l (reply .move tag .range []))) ∧
    ∀ (h : Byte) (t : SectorId), 1 ≤ h.toNat → h.toNat ≤ 127 →
      let c : Instr := .move l tag [h, BitVec.ofNat 8 (sectorNo t)]
      (s.lookup k h.toNat = none → exec c s = .next (s.putResponse l (reply .move tag .noHandle []))) ∧
      ∀ i o, s.lookup k h.toNat = some (i, o) →
        (∀ t' n, o.attachment.move? = some (t', n) →
          exec c s = .next (s.putResponse l (reply .move tag .notActive
            [BitVec.ofNat 8 (sectorNo t'), BitVec.ofNat 8 n]))) ∧
        (o.attachment.move? = none →
          (o.suspended = true → exec c s = .next (s.putResponse l (reply .move tag .suspended []))) ∧
          (o.suspended = false →
            (t = k ∨ (s.sector t).state = .disabled →
              exec c s = .next (s.putResponse l (reply .move tag .range []))) ∧
            (t ≠ k → (s.sector t).state ≠ .disabled →
              (∀ j, (s.sector t).state ≠ .present j) →
              exec c s = .next (s.putResponse l (reply .move tag .targetSilent []))) ∧
            (t ≠ k → ∀ j, (s.sector t).state = .present j →
              (8 ≤ (s.queue t).length → exec c s = .next (s.putResponse l (reply .move tag .noticeFull []))) ∧
              ((s.queue t).length < 8 → ∃ u : State,
                exec c s = .next (u.putResponse l (reply .move tag .ok
                  (recordBytes s i ++ [BitVec.ofNat 8 (sectorNo t), BitVec.ofNat 8 s.policy.hlim,
                    BitVec.ofNat 8 ((s.queue t).length + 1)]))) ∧
                u.record i = { generation := (s.record i).generation
                               occupant := some { o with
                                 attachment := .moving k h.toNat t s.policy.hlim, lapse := none } } ∧
                (∀ q, q ≠ i → u.record q = s.record q) ∧
                u.queue t = s.queue t ++ [{ id := o.id, index := i, generation := (s.record i).generation
                                            source := k, ta := o.ta, cls := o.cls, terms := o.terms
                                            frames := s.policy.hlim }] ∧
                (∀ q, q ≠ t → u.queue q = s.queue q) ∧
                u.port j = { s.port j with causes := { (s.port j).causes with handover := true } } ∧
                (∀ q, q ≠ j → u.port q = s.port q) ∧
                u = { s with table := u.table, queues := u.queues, ports := u.ports }))))

/-- READ NOTICE hands out the oldest notice of the link's sector and leaves the move going, or is refused QUEUE_EMPTY;
CANCEL MOVE returns the record to ACTIVE in its source and withdraws its notice if it is still queued. HANDOVER follows
the queue (R140, R141, R142, R146). -/
def Obligations.NoticesReadAndMovesCancelled : Prop :=
  ∀ (l : Link) (k : SectorId) (tag : Byte) (s : State), (s.rights l).sector = true → BoundTo s l k →
    ((∀ body, body ≠ [] →
      exec (.readNotice l tag body) s = .next (s.putResponse l (reply .readNotice tag .range []))) ∧
     (s.queue k = [] →
      exec (.readNotice l tag []) s = .next (s.putResponse l (reply .readNotice tag .queueEmpty []))) ∧
     ∀ n rest, s.queue k = n :: rest → ∃ u : State,
      exec (.readNotice l tag []) s = .next (u.putResponse l (reply .readNotice tag .ok
        (bytes3 n.id ++ [BitVec.ofNat 8 n.index.val, BitVec.ofNat 8 n.generation,
          BitVec.ofNat 8 (sectorNo n.source)] ++ bytes2 n.ta ++ [BitVec.ofNat 8 n.cls] ++ termsBytes n.terms ++
          [BitVec.ofNat 8 n.frames, BitVec.ofNat 8 rest.length]))) ∧
      u.queue k = rest ∧ (∀ j, j ≠ k → u.queue j = s.queue j) ∧
      u.port l = { s.port l with causes := { (s.port l).causes with handover := !rest.isEmpty } } ∧
      (∀ j, j ≠ l → u.port j = s.port j) ∧ u = { s with queues := u.queues, ports := u.ports }) ∧
    (∀ body, body.length ≠ 1 →
      exec (.cancelMove l tag body) s = .next (s.putResponse l (reply .cancelMove tag .range []))) ∧
    ∀ h : Byte,
      (h.toNat = 0 ∨ 127 < h.toNat →
        exec (.cancelMove l tag [h]) s = .next (s.putResponse l (reply .cancelMove tag .range []))) ∧
      (1 ≤ h.toNat → h.toNat ≤ 127 →
        (s.lookup k h.toNat = none →
          exec (.cancelMove l tag [h]) s = .next (s.putResponse l (reply .cancelMove tag .noHandle []))) ∧
        ∀ i o, s.lookup k h.toNat = some (i, o) →
          (o.attachment.move? = none →
            exec (.cancelMove l tag [h]) s = .next (s.putResponse l (reply .cancelMove tag .notMoving []))) ∧
          ∀ home hh t n, o.attachment = .moving home hh t n → ∃ u : State,
            exec (.cancelMove l tag [h]) s = .next (u.putResponse l (reply .cancelMove tag .ok
              (recordBytes s i ++ [BitVec.ofNat 8 (sectorNo t),
                if ∃ q ∈ s.queue t, q.index = i then 1 else 0]))) ∧
            u.record i = { generation := (s.record i).generation
                           occupant := some { o with attachment := .active home hh } } ∧
            (∀ j, j ≠ i → u.record j = s.record j) ∧
            NoticeWithdrawn s i o.attachment u ∧ OnlyHandover s u ∧
            u = { s with table := u.table, queues := u.queues, ports := u.ports })

/-- CLAIM is checked in order: RANGE, NOT_MOVING, TOO_LATE, NOT_MOVING, HANDLE_IN_USE; otherwise the record leaves its
source's map and ring, joins the claiming sector's under the new handle, keeps its credits, report, terms and flag, its
notice is withdrawn, and its grants in the source's list are void (R143, R144). -/
def Obligations.ClaimMovesTheRecord : Prop :=
  ∀ (l : Link) (t : SectorId) (tag : Byte) (s : State), (s.rights l).sector = true → BoundTo s l t →
    (∀ body, body.length ≠ 4 → exec (.claim l tag body) s = .next (s.putResponse l (reply .claim tag .range []))) ∧
    ∀ i0 i1 i2 h : Byte,
      let c : Instr := .claim l tag [i0, i1, i2, h]
      let notMoving : Prop := exec c s = .next (s.putResponse l (reply .claim tag .notMoving []))
      (h.toNat = 0 ∨ 127 < h.toNat → exec c s = .next (s.putResponse l (reply .claim tag .range []))) ∧
      (1 ≤ h.toNat → h.toNat ≤ 127 →
        (IdUnused s (field24 i0 i1 i2) → notMoving) ∧
        ∀ i o, Holds s i o → o.id = field24 i0 i1 i2 →
          (o.attachment = .unbound → notMoving) ∧
          (∀ k hh, o.attachment = .active k hh →
            (o.lapse = some t → exec c s = .next (s.putResponse l (reply .claim tag .tooLate
              (recordBytes s i ++ [BitVec.ofNat 8 (sectorNo k), BitVec.ofNat 8 hh])))) ∧
            (o.lapse ≠ some t → notMoving)) ∧
          ∀ k hh t' n, o.attachment = .moving k hh t' n →
            (t' ≠ t → notMoving) ∧
            (t' = t →
              (∀ e, s.handleEntry t h.toNat = some e →
                exec c s = .next (s.putResponse l (reply .claim tag .handleInUse [BitVec.ofNat 8 e.index.val]))) ∧
              ((∀ e ∈ (s.sector t).map, e.handle ≠ h.toNat) → ∃ u : State,
                exec c s = .next (u.putResponse l (reply .claim tag .ok
                  (recordBytes s i ++ [BitVec.ofNat 8 (sectorNo k)]))) ∧
                u.record i = { generation := (s.record i).generation
                               occupant := some { o with attachment := .active t h.toNat } } ∧
                (∀ j, j ≠ i → u.record j = s.record j) ∧
                (let left := s.setSector k ((s.sector k).leave hh i)
                 u.sectors =
                   (left.setSector t ((left.sector t).join h.toNat i (s.record i).generation)).sectors) ∧
                NoticeWithdrawn s i o.attachment u ∧ OnlyHandover s u ∧
                u = { s with table := u.table, sectors := u.sectors, queues := u.queues, ports := u.ports
                             live := liveVoided
                               (fun j g => decide (j = k) && isFor i (s.record i).generation g) s.live
                             next := nextVoided
                               (fun j g => decide (j = k) && isFor i (s.record i).generation g) s.next })))

/-! ### Requests of the links -/

/-- SET LINK RIGHTS: RANGE, then LAST_POLICY when no other link would hold POLICY; otherwise the link's rights are replaced,
and a sector that it held is released if it loses SECTOR (R160). -/
def Obligations.SetLinkRightsKeepsAPolicyHolder : Prop :=
  ∀ (l : Link) (tag : Byte) (s : State), (s.rights l).policy = true →
    (∀ body, (body.length ≠ 2 ∨ ∃ lb rb : Byte, body = [lb, rb] ∧ 3 < lb.toNat) →
      exec (.setLinkRights l tag body) s = .next (s.putResponse l (reply .setLinkRights tag .range []))) ∧
    ∀ (j : Link) (rb : Byte),
      let r : Rights := { policy := rb.getLsbD 0, sector := rb.getLsbD 1, read := rb.getLsbD 2 }
      let c : Instr := .setLinkRights l tag [linkByte (some j), rb]
      let given : State := { s with policy := { s.policy with rights := s.policy.rights.set j r } }
      let answer : Bool → Response := fun released => reply .setLinkRights tag .ok
        [linkByte (some j), rb &&& 7, if released = true then 1 else 0]
      (r.policy = false → (∀ q, q ≠ j → (s.rights q).policy = false) →
        exec c s = .next (s.putResponse l (reply .setLinkRights tag .lastPolicy []))) ∧
      ((r.policy = true ∨ ∃ q, q ≠ j ∧ (s.rights q).policy = true) →
        (∀ k, (s.rights j).sector = true → r.sector = false → BoundTo s j k →
          ∃ u : State, Released given k u ∧ exec c s = .next (u.putResponse l (answer true))) ∧
        (((s.rights j).sector = false ∨ r.sector = true ∨ Unbound s j) →
          exec c s = .next (given.putResponse l (answer false))))

/-- READ TIMING, READ ATTENTION, SET ATTENTION MASK and READ LINK STATUS touch their own port alone: the first clears
TIMING, the second SECTOR STATE, the third sets the mask, the fourth clears the counters and LINK FAULT; and the attention
line is asserted exactly while some cause is both pending and enabled (R32, R161 to R164). The order of the five counters
in READ LINK STATUS is R156's (log entry 7). The bits of the rights and of the attention sets are those of R166, and bits
that name nothing are sent as 0; the margin is R28's. -/
def Obligations.LinkRequestsTouchTheirOwnPort : Prop :=
  (∀ c : Causes, FieldBits (putCauses c) [c.linkFault, c.planReady, c.handover, c.sectorState, c.timing]) ∧
  (∀ r : Rights, FieldBits (putRights r) [r.policy, r.sector, r.read]) ∧
  (∀ f : Ftu, (f.state = .free → f.margin = 8) ∧ (f.state = .locked → f.margin = 0) ∧
    (f.state = .holdover → f.margin = min (f.h / 32) 8)) ∧
  (∀ (l : Link) (tag : Byte) (body : List Byte) (s : State), body ≠ [] →
    exec (.readTiming l tag body) s = .next (s.putResponse l (reply .readTiming tag .range [])) ∧
    exec (.readAttention l tag body) s = .next (s.putResponse l (reply .readAttention tag .range [])) ∧
    exec (.readLinkStatus l tag body) s = .next (s.putResponse l (reply .readLinkStatus tag .range []))) ∧
  (∀ (l : Link) (tag : Byte) (s : State),
    let held : TimingSet := s.ftu.pendingSet.getD { p := 0, t := 0, k := 0 }
    ∃ state : Byte, (s.ftu.state = .free → state = 0) ∧ (s.ftu.state = .locked → state = 1) ∧
      (s.ftu.state = .holdover → state = 2) ∧
      exec (.readTiming l tag []) s = .next ((s.setPort l { s.port l with
          causes := { (s.port l).causes with timing := false } }).putResponse l
        (reply .readTiming tag .ok
          ([state] ++ bytes2 s.ftu.frame ++ bytes3 s.ftu.count ++ bytes2 s.ftu.h ++
            [BitVec.ofNat 8 s.ftu.margin, BitVec.ofNat 8 s.ftu.goodRun] ++ bytes3 s.ftu.interval ++
            bytes2 s.ftu.glitch ++ bytes2 s.ftu.missed ++ bytes2 s.ftu.stray ++ bytes3 s.ftu.inForce.p ++
            bytes2 s.ftu.inForce.t ++ [BitVec.ofNat 8 s.ftu.inForce.k,
            if s.ftu.pendingSet = none then 0 else 1] ++ bytes3 held.p ++ bytes2 held.t ++
            [BitVec.ofNat 8 held.k])))) ∧
  (∀ (l : Link) (tag : Byte) (s : State), ∃ bound : Byte,
    (Unbound s l → bound = 255) ∧ (∀ k, BoundTo s l k → bound = BitVec.ofNat 8 (sectorNo k)) ∧
    (∃ top : Byte,
      let live : Causes := (s.port l).causes.and (s.port l).mask
      (live.linkFault = true → top = 0) ∧ (live.linkFault = false → live.planReady = true → top = 1) ∧
      (live.linkFault = false → live.planReady = false → live.handover = true → top = 2) ∧
      (live.linkFault = false → live.planReady = false → live.handover = false → live.sectorState = true →
        top = 3) ∧
      (live = { linkFault := false, planReady := false, handover := false, sectorState := false, timing := true } →
        top = 4) ∧
      (live = { linkFault := false, planReady := false, handover := false, sectorState := false, timing := false } →
        top = 255) ∧
      exec (.readAttention l tag []) s = .next ((s.setPort l { s.port l with
          causes := { (s.port l).causes with sectorState := false } }).putResponse l
        (reply .readAttention tag .ok
          ([top] ++ putCauses (s.port l).causes ++ putCauses (s.port l).mask ++
            bytes2 (if (s.port l).causes.planReady = true then (s.port l).readyFrame else 0) ++ [bound])))) ∧
    exec (.readLinkStatus l tag []) s = .next ((s.setPort l { s.port l with
        errors := { framing := 0, badLength := 0, badChecksum := 0, unknownKind := 0, holdTimeout := 0 }
        causes := { (s.port l).causes with linkFault := false } }).putResponse l
      (reply .readLinkStatus tag .ok
        ([linkByte (some l)] ++ putRights (s.rights l) ++ [bound, BitVec.ofNat 8 s.policy.hold,
          BitVec.ofNat 8 (s.port l).errors.framing, BitVec.ofNat 8 (s.port l).errors.badLength,
          BitVec.ofNat 8 (s.port l).errors.badChecksum, BitVec.ofNat 8 (s.port l).errors.unknownKind,
          BitVec.ofNat 8 (s.port l).errors.holdTimeout])))) ∧
  (∀ (l : Link) (tag : Byte) (s : State), ((s.rights l).policy = true ∨ (s.rights l).sector = true) →
    (∀ body, body.length ≠ 1 →
      exec (.setAttentionMask l tag body) s = .next (s.putResponse l (reply .setAttentionMask tag .range []))) ∧
    ∀ m : Byte,
      exec (.setAttentionMask l tag [m]) s = .next ((s.setPort l { s.port l with
          mask := { linkFault := m.getLsbD 0, planReady := m.getLsbD 1, handover := m.getLsbD 2
                    sectorState := m.getLsbD 3, timing := m.getLsbD 4 } }).putResponse l
        (reply .setAttentionMask tag .ok ([m &&& 31] ++ putCauses (s.port l).causes)))) ∧
  ∀ (s : State) (l : Link), s.attentionLine l = true ↔
    ((s.port l).causes.linkFault = true ∧ (s.port l).mask.linkFault = true) ∨
    ((s.port l).causes.planReady = true ∧ (s.port l).mask.planReady = true) ∨
    ((s.port l).causes.handover = true ∧ (s.port l).mask.handover = true) ∨
    ((s.port l).causes.sectorState = true ∧ (s.port l).mask.sectorState = true) ∨
    ((s.port l).causes.timing = true ∧ (s.port l).mask.timing = true)

/-! ### The laws every step keeps -/

/-- The part right after reset obeys every law of the device below. -/
def Obligations.LawsHoldAtReset : Prop :=
  PolicyInRange State.reset ∧ SomePolicyHolder State.reset ∧ TimingInRange State.reset ∧
  WindowFollowsSlots State.reset ∧ BuildFollowsWindow State.reset ∧ PlanFramesAgree State.reset ∧
  IdsUnique State.reset ∧ CreditsBounded State.reset ∧ RecordsInRange State.reset ∧ SectorsFollowN State.reset ∧
  BindingsUnique State.reset ∧ MapsAndRingsAgree State.reset ∧ BuildAtItsStart State.reset ∧
  NoticesAgree State.reset ∧ HandoverFollowsQueues State.reset

/-- Every policy parameter stays in its range and at least one link holds the POLICY right, whatever step is taken (R8,
R160). -/
def Obligations.PolicyLawsKept : Prop :=
  (∀ s t : State, PolicyInRange s → step s = .next t → PolicyInRange t) ∧
  ∀ s t : State, SomePolicyHolder s → step s = .next t → SomePolicyHolder t

/-- The timing values stay in their ranges, H and the good-run count fit the timing state, and the count stays below the
end of the frame (R22 to R31). -/
def Obligations.TimingLawsKept : Prop :=
  ∀ s t : State, TimingInRange s → step s = .next t → TimingInRange t

/-- The demand window is open exactly from slot O to slot W of a frame; a build in flight began at the slot-W boundary of
the frame that runs, has had at most 4,096 edges, and stands at its start with the snapshot that the build start took; and
LIVE carries the frame that runs, NEXT and a build in flight the frame after it (R72, R85, R89, R102, R123; the working
state of a build in flight is log entry 5). -/
def Obligations.WindowBuildAndPlanFrameLawsKept : Prop :=
  (∀ s t : State, WindowFollowsSlots s → step s = .next t → WindowFollowsSlots t) ∧
  (∀ s t : State, BuildFollowsWindow s → step s = .next t → BuildFollowsWindow t) ∧
  (∀ s t : State, BuildAtItsStart s → step s = .next t → BuildAtItsStart t) ∧
  ∀ s t : State, PlanFramesAgree s → step s = .next t → PlanFramesAgree t

/-- No two records in use hold the same id, each credit lies between 0 and 4 times its record's weight, and the fields of
every record stay in the ranges of R35's table (R35, R41, R44). -/
def Obligations.SubscriberLawsKept : Prop :=
  (∀ s t : State, IdsUnique s → step s = .next t → IdsUnique t) ∧
  (∀ s t : State, CreditsBounded s → step s = .next t → CreditsBounded t) ∧
  ∀ s t : State, RecordsInRange s → step s = .next t → RecordsInRange t

/-- Each link is bound to at most one sector, and the DISABLED sectors are those from N on (R13, R57). -/
def Obligations.BindingLawsKept : Prop :=
  (∀ s t : State, BindingsUnique s → step s = .next t → BindingsUnique t) ∧
  ∀ s t : State, SectorsFollowN s → step s = .next t → SectorsFollowN t

/-- The handle maps and the records agree, and each ring holds exactly the records of its map, each once (R61, R66). -/
def Obligations.MapAndRingLawsKept : Prop :=
  ∀ s t : State, MapsAndRingsAgree s → step s = .next t → MapsAndRingsAgree t

/-- Each queue holds at most 8 notices, each of a MOVING record with that target, and no record has two; and HANDOVER is
pending on a link exactly while the queue of its bound sector holds a notice (R137, R140). -/
def Obligations.NoticeAndHandoverLawsKept : Prop :=
  (∀ s t : State, NoticesAgree s → step s = .next t → NoticesAgree t) ∧
  ∀ s t : State, HandoverFollowsQueues s → step s = .next t → HandoverFollowsQueues t
end

