-- ==== Sys2Proof/Laws/State.lean ====
section
/-! SUPPORT. What each update of the state leaves in each field, one lemma for each field and update, true by
unfolding once; and reading back what was written, for sectors, links and records. -/

namespace Sys2Proof.Machine

/-! ### Families -/

@[simp] theorem PerSector.get_set_same {α : Type} (p : PerSector α) (k : SectorId) (v : α) : (p.set k v).get k = v := by
  cases k <;> rfl

theorem PerSector.get_set {α : Type} (p : PerSector α) (k j : SectorId) (v : α) :
    (p.set k v).get j = if j = k then v else p.get j := by
  cases k <;> cases j <;> rfl

@[simp] theorem PerSector.get_set_other {α : Type} (p : PerSector α) {k j : SectorId} (v : α) (h : j ≠ k) :
    (p.set k v).get j = p.get j := by
  rw [PerSector.get_set, if_neg h]

@[simp] theorem PerSector.get_of {α : Type} (f : SectorId → α) (k : SectorId) : (PerSector.of f).get k = f k := by
  cases k <;> rfl

/-- Two families with the same value for each sector are the same. -/
theorem PerSector.ext_get {α : Type} {p q : PerSector α} (h : ∀ k, p.get k = q.get k) : p = q := by
  cases p; cases q
  have h0 := h .s0; have h1 := h .s1; have h2 := h .s2
  simp only [PerSector.get] at h0 h1 h2
  simp [h0, h1, h2]

@[simp] theorem PerSector.set_get {α : Type} (p : PerSector α) (k : SectorId) : p.set k (p.get k) = p := by
  cases k <;> rfl

@[simp] theorem PerLink.get_set_same {α : Type} (p : PerLink α) (l : Link) (v : α) : (p.set l v).get l = v := by
  cases l <;> rfl

theorem PerLink.get_set {α : Type} (p : PerLink α) (l j : Link) (v : α) :
    (p.set l v).get j = if j = l then v else p.get j := by
  cases l <;> cases j <;> rfl

@[simp] theorem PerLink.get_set_other {α : Type} (p : PerLink α) {l j : Link} (v : α) (h : j ≠ l) :
    (p.set l v).get j = p.get j := by
  rw [PerLink.get_set, if_neg h]

@[simp] theorem PerLink.get_of {α : Type} (f : Link → α) (l : Link) : (PerLink.of f).get l = f l := by
  cases l <;> rfl

/-- Two families with the same value for each link are the same. -/
theorem PerLink.ext_get {α : Type} {p q : PerLink α} (h : ∀ l, p.get l = q.get l) : p = q := by
  cases p; cases q
  have h0 := h .l0; have h1 := h .l1; have h2 := h .l2; have h3 := h .l3
  simp only [PerLink.get] at h0 h1 h2 h3
  simp [h0, h1, h2, h3]

@[simp] theorem PerLink.set_get {α : Type} (p : PerLink α) (l : Link) : p.set l (p.get l) = p := by
  cases l <;> rfl

@[simp] theorem mem_allSectors (k : SectorId) : k ∈ allSectors := by cases k <;> decide

@[simp] theorem mem_allLinks (l : Link) : l ∈ allLinks := by cases l <;> decide

@[simp] theorem mem_allRecords (i : RecIdx) : i ∈ allRecords := List.mem_finRange i

/-! ### setRecord -/

@[simp] theorem setRecord_ftu (s : State) (i : RecIdx) (r : Record) :
    (s.setRecord i r).ftu = s.ftu := rfl
@[simp] theorem setRecord_policy (s : State) (i : RecIdx) (r : Record) :
    (s.setRecord i r).policy = s.policy := rfl
@[simp] theorem setRecord_sectors (s : State) (i : RecIdx) (r : Record) :
    (s.setRecord i r).sectors = s.sectors := rfl
@[simp] theorem setRecord_windowOpen (s : State) (i : RecIdx) (r : Record) :
    (s.setRecord i r).windowOpen = s.windowOpen := rfl
@[simp] theorem setRecord_queues (s : State) (i : RecIdx) (r : Record) :
    (s.setRecord i r).queues = s.queues := rfl
@[simp] theorem setRecord_builder (s : State) (i : RecIdx) (r : Record) :
    (s.setRecord i r).builder = s.builder := rfl
@[simp] theorem setRecord_live (s : State) (i : RecIdx) (r : Record) :
    (s.setRecord i r).live = s.live := rfl
@[simp] theorem setRecord_next (s : State) (i : RecIdx) (r : Record) :
    (s.setRecord i r).next = s.next := rfl
@[simp] theorem setRecord_ports (s : State) (i : RecIdx) (r : Record) :
    (s.setRecord i r).ports = s.ports := rfl
@[simp] theorem setRecord_powerLow (s : State) (i : RecIdx) (r : Record) :
    (s.setRecord i r).powerLow = s.powerLow := rfl
@[simp] theorem setRecord_pending (s : State) (i : RecIdx) (r : Record) :
    (s.setRecord i r).pending = s.pending := rfl

/-! ### setOccupant -/

@[simp] theorem setOccupant_ftu (s : State) (i : RecIdx) (o : Option Occupant) :
    (s.setOccupant i o).ftu = s.ftu := rfl
@[simp] theorem setOccupant_policy (s : State) (i : RecIdx) (o : Option Occupant) :
    (s.setOccupant i o).policy = s.policy := rfl
@[simp] theorem setOccupant_sectors (s : State) (i : RecIdx) (o : Option Occupant) :
    (s.setOccupant i o).sectors = s.sectors := rfl
@[simp] theorem setOccupant_windowOpen (s : State) (i : RecIdx) (o : Option Occupant) :
    (s.setOccupant i o).windowOpen = s.windowOpen := rfl
@[simp] theorem setOccupant_queues (s : State) (i : RecIdx) (o : Option Occupant) :
    (s.setOccupant i o).queues = s.queues := rfl
@[simp] theorem setOccupant_builder (s : State) (i : RecIdx) (o : Option Occupant) :
    (s.setOccupant i o).builder = s.builder := rfl
@[simp] theorem setOccupant_live (s : State) (i : RecIdx) (o : Option Occupant) :
    (s.setOccupant i o).live = s.live := rfl
@[simp] theorem setOccupant_next (s : State) (i : RecIdx) (o : Option Occupant) :
    (s.setOccupant i o).next = s.next := rfl
@[simp] theorem setOccupant_ports (s : State) (i : RecIdx) (o : Option Occupant) :
    (s.setOccupant i o).ports = s.ports := rfl
@[simp] theorem setOccupant_powerLow (s : State) (i : RecIdx) (o : Option Occupant) :
    (s.setOccupant i o).powerLow = s.powerLow := rfl
@[simp] theorem setOccupant_pending (s : State) (i : RecIdx) (o : Option Occupant) :
    (s.setOccupant i o).pending = s.pending := rfl

/-! ### mapOccupants -/

@[simp] theorem mapOccupants_ftu (s : State) (f : RecIdx → Occupant → Occupant) :
    (s.mapOccupants f).ftu = s.ftu := by
  simp only [State.mapOccupants]
@[simp] theorem mapOccupants_policy (s : State) (f : RecIdx → Occupant → Occupant) :
    (s.mapOccupants f).policy = s.policy := by
  simp only [State.mapOccupants]
@[simp] theorem mapOccupants_sectors (s : State) (f : RecIdx → Occupant → Occupant) :
    (s.mapOccupants f).sectors = s.sectors := by
  simp only [State.mapOccupants]
@[simp] theorem mapOccupants_windowOpen (s : State) (f : RecIdx → Occupant → Occupant) :
    (s.mapOccupants f).windowOpen = s.windowOpen := by
  simp only [State.mapOccupants]
@[simp] theorem mapOccupants_queues (s : State) (f : RecIdx → Occupant → Occupant) :
    (s.mapOccupants f).queues = s.queues := by
  simp only [State.mapOccupants]
@[simp] theorem mapOccupants_builder (s : State) (f : RecIdx → Occupant → Occupant) :
    (s.mapOccupants f).builder = s.builder := by
  simp only [State.mapOccupants]
@[simp] theorem mapOccupants_live (s : State) (f : RecIdx → Occupant → Occupant) :
    (s.mapOccupants f).live = s.live := by
  simp only [State.mapOccupants]
@[simp] theorem mapOccupants_next (s : State) (f : RecIdx → Occupant → Occupant) :
    (s.mapOccupants f).next = s.next := by
  simp only [State.mapOccupants]
@[simp] theorem mapOccupants_ports (s : State) (f : RecIdx → Occupant → Occupant) :
    (s.mapOccupants f).ports = s.ports := by
  simp only [State.mapOccupants]
@[simp] theorem mapOccupants_powerLow (s : State) (f : RecIdx → Occupant → Occupant) :
    (s.mapOccupants f).powerLow = s.powerLow := by
  simp only [State.mapOccupants]
@[simp] theorem mapOccupants_pending (s : State) (f : RecIdx → Occupant → Occupant) :
    (s.mapOccupants f).pending = s.pending := by
  simp only [State.mapOccupants]

/-! ### setSector -/

@[simp] theorem setSector_ftu (s : State) (k : SectorId) (v : Sector) :
    (s.setSector k v).ftu = s.ftu := rfl
@[simp] theorem setSector_policy (s : State) (k : SectorId) (v : Sector) :
    (s.setSector k v).policy = s.policy := rfl
@[simp] theorem setSector_table (s : State) (k : SectorId) (v : Sector) :
    (s.setSector k v).table = s.table := rfl
@[simp] theorem setSector_windowOpen (s : State) (k : SectorId) (v : Sector) :
    (s.setSector k v).windowOpen = s.windowOpen := rfl
@[simp] theorem setSector_queues (s : State) (k : SectorId) (v : Sector) :
    (s.setSector k v).queues = s.queues := rfl
@[simp] theorem setSector_builder (s : State) (k : SectorId) (v : Sector) :
    (s.setSector k v).builder = s.builder := rfl
@[simp] theorem setSector_live (s : State) (k : SectorId) (v : Sector) :
    (s.setSector k v).live = s.live := rfl
@[simp] theorem setSector_next (s : State) (k : SectorId) (v : Sector) :
    (s.setSector k v).next = s.next := rfl
@[simp] theorem setSector_ports (s : State) (k : SectorId) (v : Sector) :
    (s.setSector k v).ports = s.ports := rfl
@[simp] theorem setSector_powerLow (s : State) (k : SectorId) (v : Sector) :
    (s.setSector k v).powerLow = s.powerLow := rfl
@[simp] theorem setSector_pending (s : State) (k : SectorId) (v : Sector) :
    (s.setSector k v).pending = s.pending := rfl

/-! ### setPort -/

@[simp] theorem setPort_ftu (s : State) (l : Link) (p : Port) :
    (s.setPort l p).ftu = s.ftu := rfl
@[simp] theorem setPort_policy (s : State) (l : Link) (p : Port) :
    (s.setPort l p).policy = s.policy := rfl
@[simp] theorem setPort_table (s : State) (l : Link) (p : Port) :
    (s.setPort l p).table = s.table := rfl
@[simp] theorem setPort_sectors (s : State) (l : Link) (p : Port) :
    (s.setPort l p).sectors = s.sectors := rfl
@[simp] theorem setPort_windowOpen (s : State) (l : Link) (p : Port) :
    (s.setPort l p).windowOpen = s.windowOpen := rfl
@[simp] theorem setPort_queues (s : State) (l : Link) (p : Port) :
    (s.setPort l p).queues = s.queues := rfl
@[simp] theorem setPort_builder (s : State) (l : Link) (p : Port) :
    (s.setPort l p).builder = s.builder := rfl
@[simp] theorem setPort_live (s : State) (l : Link) (p : Port) :
    (s.setPort l p).live = s.live := rfl
@[simp] theorem setPort_next (s : State) (l : Link) (p : Port) :
    (s.setPort l p).next = s.next := rfl
@[simp] theorem setPort_powerLow (s : State) (l : Link) (p : Port) :
    (s.setPort l p).powerLow = s.powerLow := rfl
@[simp] theorem setPort_pending (s : State) (l : Link) (p : Port) :
    (s.setPort l p).pending = s.pending := rfl

/-! ### mapPorts -/

@[simp] theorem mapPorts_ftu (s : State) (f : Link → Port → Port) :
    (s.mapPorts f).ftu = s.ftu := rfl
@[simp] theorem mapPorts_policy (s : State) (f : Link → Port → Port) :
    (s.mapPorts f).policy = s.policy := rfl
@[simp] theorem mapPorts_table (s : State) (f : Link → Port → Port) :
    (s.mapPorts f).table = s.table := rfl
@[simp] theorem mapPorts_sectors (s : State) (f : Link → Port → Port) :
    (s.mapPorts f).sectors = s.sectors := rfl
@[simp] theorem mapPorts_windowOpen (s : State) (f : Link → Port → Port) :
    (s.mapPorts f).windowOpen = s.windowOpen := rfl
@[simp] theorem mapPorts_queues (s : State) (f : Link → Port → Port) :
    (s.mapPorts f).queues = s.queues := rfl
@[simp] theorem mapPorts_builder (s : State) (f : Link → Port → Port) :
    (s.mapPorts f).builder = s.builder := rfl
@[simp] theorem mapPorts_live (s : State) (f : Link → Port → Port) :
    (s.mapPorts f).live = s.live := rfl
@[simp] theorem mapPorts_next (s : State) (f : Link → Port → Port) :
    (s.mapPorts f).next = s.next := rfl
@[simp] theorem mapPorts_powerLow (s : State) (f : Link → Port → Port) :
    (s.mapPorts f).powerLow = s.powerLow := rfl
@[simp] theorem mapPorts_pending (s : State) (f : Link → Port → Port) :
    (s.mapPorts f).pending = s.pending := rfl

/-! ### putResponse -/

@[simp] theorem putResponse_ftu (s : State) (l : Link) (r : Response) :
    (s.putResponse l r).ftu = s.ftu := rfl
@[simp] theorem putResponse_policy (s : State) (l : Link) (r : Response) :
    (s.putResponse l r).policy = s.policy := rfl
@[simp] theorem putResponse_table (s : State) (l : Link) (r : Response) :
    (s.putResponse l r).table = s.table := rfl
@[simp] theorem putResponse_sectors (s : State) (l : Link) (r : Response) :
    (s.putResponse l r).sectors = s.sectors := rfl
@[simp] theorem putResponse_windowOpen (s : State) (l : Link) (r : Response) :
    (s.putResponse l r).windowOpen = s.windowOpen := rfl
@[simp] theorem putResponse_queues (s : State) (l : Link) (r : Response) :
    (s.putResponse l r).queues = s.queues := rfl
@[simp] theorem putResponse_builder (s : State) (l : Link) (r : Response) :
    (s.putResponse l r).builder = s.builder := rfl
@[simp] theorem putResponse_live (s : State) (l : Link) (r : Response) :
    (s.putResponse l r).live = s.live := rfl
@[simp] theorem putResponse_next (s : State) (l : Link) (r : Response) :
    (s.putResponse l r).next = s.next := rfl
@[simp] theorem putResponse_powerLow (s : State) (l : Link) (r : Response) :
    (s.putResponse l r).powerLow = s.powerLow := rfl
@[simp] theorem putResponse_pending (s : State) (l : Link) (r : Response) :
    (s.putResponse l r).pending = s.pending := rfl

/-! ### setHandover -/

@[simp] theorem setHandover_ftu (s : State) (l : Link) (b : Bool) :
    (s.setHandover l b).ftu = s.ftu := rfl
@[simp] theorem setHandover_policy (s : State) (l : Link) (b : Bool) :
    (s.setHandover l b).policy = s.policy := rfl
@[simp] theorem setHandover_table (s : State) (l : Link) (b : Bool) :
    (s.setHandover l b).table = s.table := rfl
@[simp] theorem setHandover_sectors (s : State) (l : Link) (b : Bool) :
    (s.setHandover l b).sectors = s.sectors := rfl
@[simp] theorem setHandover_windowOpen (s : State) (l : Link) (b : Bool) :
    (s.setHandover l b).windowOpen = s.windowOpen := rfl
@[simp] theorem setHandover_queues (s : State) (l : Link) (b : Bool) :
    (s.setHandover l b).queues = s.queues := rfl
@[simp] theorem setHandover_builder (s : State) (l : Link) (b : Bool) :
    (s.setHandover l b).builder = s.builder := rfl
@[simp] theorem setHandover_live (s : State) (l : Link) (b : Bool) :
    (s.setHandover l b).live = s.live := rfl
@[simp] theorem setHandover_next (s : State) (l : Link) (b : Bool) :
    (s.setHandover l b).next = s.next := rfl
@[simp] theorem setHandover_powerLow (s : State) (l : Link) (b : Bool) :
    (s.setHandover l b).powerLow = s.powerLow := rfl
@[simp] theorem setHandover_pending (s : State) (l : Link) (b : Bool) :
    (s.setHandover l b).pending = s.pending := rfl

/-! ### raiseSectorState -/

@[simp] theorem raiseSectorState_ftu (s : State) :
    (s.raiseSectorState).ftu = s.ftu := rfl
@[simp] theorem raiseSectorState_policy (s : State) :
    (s.raiseSectorState).policy = s.policy := rfl
@[simp] theorem raiseSectorState_table (s : State) :
    (s.raiseSectorState).table = s.table := rfl
@[simp] theorem raiseSectorState_sectors (s : State) :
    (s.raiseSectorState).sectors = s.sectors := rfl
@[simp] theorem raiseSectorState_windowOpen (s : State) :
    (s.raiseSectorState).windowOpen = s.windowOpen := rfl
@[simp] theorem raiseSectorState_queues (s : State) :
    (s.raiseSectorState).queues = s.queues := rfl
@[simp] theorem raiseSectorState_builder (s : State) :
    (s.raiseSectorState).builder = s.builder := rfl
@[simp] theorem raiseSectorState_live (s : State) :
    (s.raiseSectorState).live = s.live := rfl
@[simp] theorem raiseSectorState_next (s : State) :
    (s.raiseSectorState).next = s.next := rfl
@[simp] theorem raiseSectorState_powerLow (s : State) :
    (s.raiseSectorState).powerLow = s.powerLow := rfl
@[simp] theorem raiseSectorState_pending (s : State) :
    (s.raiseSectorState).pending = s.pending := rfl

/-! ### raiseTiming -/

@[simp] theorem raiseTiming_ftu (s : State) :
    (s.raiseTiming).ftu = s.ftu := rfl
@[simp] theorem raiseTiming_policy (s : State) :
    (s.raiseTiming).policy = s.policy := rfl
@[simp] theorem raiseTiming_table (s : State) :
    (s.raiseTiming).table = s.table := rfl
@[simp] theorem raiseTiming_sectors (s : State) :
    (s.raiseTiming).sectors = s.sectors := rfl
@[simp] theorem raiseTiming_windowOpen (s : State) :
    (s.raiseTiming).windowOpen = s.windowOpen := rfl
@[simp] theorem raiseTiming_queues (s : State) :
    (s.raiseTiming).queues = s.queues := rfl
@[simp] theorem raiseTiming_builder (s : State) :
    (s.raiseTiming).builder = s.builder := rfl
@[simp] theorem raiseTiming_live (s : State) :
    (s.raiseTiming).live = s.live := rfl
@[simp] theorem raiseTiming_next (s : State) :
    (s.raiseTiming).next = s.next := rfl
@[simp] theorem raiseTiming_powerLow (s : State) :
    (s.raiseTiming).powerLow = s.powerLow := rfl
@[simp] theorem raiseTiming_pending (s : State) :
    (s.raiseTiming).pending = s.pending := rfl

/-! ### raisePlanReady -/

@[simp] theorem raisePlanReady_ftu (s : State) (n : Nat) :
    (s.raisePlanReady n).ftu = s.ftu := rfl
@[simp] theorem raisePlanReady_policy (s : State) (n : Nat) :
    (s.raisePlanReady n).policy = s.policy := rfl
@[simp] theorem raisePlanReady_table (s : State) (n : Nat) :
    (s.raisePlanReady n).table = s.table := rfl
@[simp] theorem raisePlanReady_sectors (s : State) (n : Nat) :
    (s.raisePlanReady n).sectors = s.sectors := rfl
@[simp] theorem raisePlanReady_windowOpen (s : State) (n : Nat) :
    (s.raisePlanReady n).windowOpen = s.windowOpen := rfl
@[simp] theorem raisePlanReady_queues (s : State) (n : Nat) :
    (s.raisePlanReady n).queues = s.queues := rfl
@[simp] theorem raisePlanReady_builder (s : State) (n : Nat) :
    (s.raisePlanReady n).builder = s.builder := rfl
@[simp] theorem raisePlanReady_live (s : State) (n : Nat) :
    (s.raisePlanReady n).live = s.live := rfl
@[simp] theorem raisePlanReady_next (s : State) (n : Nat) :
    (s.raisePlanReady n).next = s.next := rfl
@[simp] theorem raisePlanReady_powerLow (s : State) (n : Nat) :
    (s.raisePlanReady n).powerLow = s.powerLow := rfl
@[simp] theorem raisePlanReady_pending (s : State) (n : Nat) :
    (s.raisePlanReady n).pending = s.pending := rfl

/-! ### setPolicy -/

@[simp] theorem setPolicy_ftu (s : State) (p : Policy) :
    (s.setPolicy p).ftu = s.ftu := rfl
@[simp] theorem setPolicy_table (s : State) (p : Policy) :
    (s.setPolicy p).table = s.table := rfl
@[simp] theorem setPolicy_sectors (s : State) (p : Policy) :
    (s.setPolicy p).sectors = s.sectors := rfl
@[simp] theorem setPolicy_windowOpen (s : State) (p : Policy) :
    (s.setPolicy p).windowOpen = s.windowOpen := rfl
@[simp] theorem setPolicy_queues (s : State) (p : Policy) :
    (s.setPolicy p).queues = s.queues := rfl
@[simp] theorem setPolicy_builder (s : State) (p : Policy) :
    (s.setPolicy p).builder = s.builder := rfl
@[simp] theorem setPolicy_live (s : State) (p : Policy) :
    (s.setPolicy p).live = s.live := rfl
@[simp] theorem setPolicy_next (s : State) (p : Policy) :
    (s.setPolicy p).next = s.next := rfl
@[simp] theorem setPolicy_ports (s : State) (p : Policy) :
    (s.setPolicy p).ports = s.ports := rfl
@[simp] theorem setPolicy_powerLow (s : State) (p : Policy) :
    (s.setPolicy p).powerLow = s.powerLow := rfl
@[simp] theorem setPolicy_pending (s : State) (p : Policy) :
    (s.setPolicy p).pending = s.pending := rfl

/-! ### voidWhere -/

@[simp] theorem voidWhere_ftu (s : State) (f : SectorId → Grant → Bool) :
    (s.voidWhere f).ftu = s.ftu := rfl
@[simp] theorem voidWhere_policy (s : State) (f : SectorId → Grant → Bool) :
    (s.voidWhere f).policy = s.policy := rfl
@[simp] theorem voidWhere_table (s : State) (f : SectorId → Grant → Bool) :
    (s.voidWhere f).table = s.table := rfl
@[simp] theorem voidWhere_sectors (s : State) (f : SectorId → Grant → Bool) :
    (s.voidWhere f).sectors = s.sectors := rfl
@[simp] theorem voidWhere_windowOpen (s : State) (f : SectorId → Grant → Bool) :
    (s.voidWhere f).windowOpen = s.windowOpen := rfl
@[simp] theorem voidWhere_queues (s : State) (f : SectorId → Grant → Bool) :
    (s.voidWhere f).queues = s.queues := rfl
@[simp] theorem voidWhere_builder (s : State) (f : SectorId → Grant → Bool) :
    (s.voidWhere f).builder = s.builder := rfl
@[simp] theorem voidWhere_ports (s : State) (f : SectorId → Grant → Bool) :
    (s.voidWhere f).ports = s.ports := rfl
@[simp] theorem voidWhere_powerLow (s : State) (f : SectorId → Grant → Bool) :
    (s.voidWhere f).powerLow = s.powerLow := rfl
@[simp] theorem voidWhere_pending (s : State) (f : SectorId → Grant → Bool) :
    (s.voidWhere f).pending = s.pending := rfl

/-! ### voidRecord -/

@[simp] theorem voidRecord_ftu (s : State) (i : RecIdx) :
    (s.voidRecord i).ftu = s.ftu := rfl
@[simp] theorem voidRecord_policy (s : State) (i : RecIdx) :
    (s.voidRecord i).policy = s.policy := rfl
@[simp] theorem voidRecord_table (s : State) (i : RecIdx) :
    (s.voidRecord i).table = s.table := rfl
@[simp] theorem voidRecord_sectors (s : State) (i : RecIdx) :
    (s.voidRecord i).sectors = s.sectors := rfl
@[simp] theorem voidRecord_windowOpen (s : State) (i : RecIdx) :
    (s.voidRecord i).windowOpen = s.windowOpen := rfl
@[simp] theorem voidRecord_queues (s : State) (i : RecIdx) :
    (s.voidRecord i).queues = s.queues := rfl
@[simp] theorem voidRecord_builder (s : State) (i : RecIdx) :
    (s.voidRecord i).builder = s.builder := rfl
@[simp] theorem voidRecord_ports (s : State) (i : RecIdx) :
    (s.voidRecord i).ports = s.ports := rfl
@[simp] theorem voidRecord_powerLow (s : State) (i : RecIdx) :
    (s.voidRecord i).powerLow = s.powerLow := rfl
@[simp] theorem voidRecord_pending (s : State) (i : RecIdx) :
    (s.voidRecord i).pending = s.pending := rfl

/-! ### Reading back -/

@[simp] theorem record_setRecord_same (s : State) (i : RecIdx) (r : Record) : (s.setRecord i r).record i = r := by
  simp [State.record, State.setRecord, Vector.get_eq_getElem]

@[simp] theorem record_setRecord_other (s : State) {i j : RecIdx} (r : Record) (h : j ≠ i) :
    (s.setRecord i r).record j = s.record j := by
  have h' : i.val ≠ j.val := fun e => h (Fin.ext e.symm)
  simp [State.record, State.setRecord, Vector.get_eq_getElem, h']

@[simp] theorem occupant_setOccupant_same (s : State) (i : RecIdx) (o : Option Occupant) :
    (s.setOccupant i o).occupant i = o := by
  simp [State.occupant, State.setOccupant]

@[simp] theorem occupant_setOccupant_other (s : State) {i j : RecIdx} (o : Option Occupant) (h : j ≠ i) :
    (s.setOccupant i o).occupant j = s.occupant j := by
  simp [State.occupant, State.setOccupant, h]

/-- An occupant is replaced without its record's generation. -/
@[simp] theorem generation_setOccupant (s : State) (i j : RecIdx) (o : Option Occupant) :
    ((s.setOccupant i o).record j).generation = (s.record j).generation := by
  by_cases h : j = i
  · subst h; simp [State.setOccupant]
  · simp [State.setOccupant, h]

@[simp] theorem record_mapOccupants (s : State) (f : RecIdx → Occupant → Occupant) (i : RecIdx) :
    (s.mapOccupants f).record i = { generation := (s.record i).generation, occupant := (s.occupant i).map (f i) } := by
  simp [State.record, State.occupant, State.mapOccupants, Vector.get_eq_getElem]

@[simp] theorem occupant_mapOccupants (s : State) (f : RecIdx → Occupant → Occupant) (i : RecIdx) :
    (s.mapOccupants f).occupant i = (s.occupant i).map (f i) := by
  simp only [State.occupant, record_mapOccupants]

@[simp] theorem sector_setSector_same (s : State) (k : SectorId) (v : Sector) : (s.setSector k v).sector k = v := by
  simp [State.sector, State.setSector]

@[simp] theorem sector_setSector_other (s : State) {k j : SectorId} (v : Sector) (h : j ≠ k) :
    (s.setSector k v).sector j = s.sector j := by
  simp [State.sector, State.setSector, h]

@[simp] theorem port_setPort_same (s : State) (l : Link) (p : Port) : (s.setPort l p).port l = p := by
  simp [State.port, State.setPort]

@[simp] theorem port_setPort_other (s : State) {l j : Link} (p : Port) (h : j ≠ l) :
    (s.setPort l p).port j = s.port j := by
  simp [State.port, State.setPort, h]

@[simp] theorem port_mapPorts (s : State) (f : Link → Port → Port) (l : Link) :
    (s.mapPorts f).port l = f l (s.port l) := by
  simp [State.port, State.mapPorts]

@[simp] theorem port_putResponse_same (s : State) (l : Link) (r : Response) :
    (s.putResponse l r).port l = { s.port l with buffer := some r } := by
  simp [State.putResponse]

@[simp] theorem port_putResponse_other (s : State) {l j : Link} (r : Response) (h : j ≠ l) :
    (s.putResponse l r).port j = s.port j := by
  simp [State.putResponse, h]

/-- The records depend on the table alone. -/
theorem record_congr {s t : State} (h : t.table = s.table) (i : RecIdx) : t.record i = s.record i := by
  simp only [State.record, h]

/-- The occupants depend on the table alone. -/
theorem occupant_congr {s t : State} (h : t.table = s.table) (i : RecIdx) : t.occupant i = s.occupant i := by
  simp only [State.occupant, record_congr h]

/-- The sectors depend on their family alone. -/
theorem sector_congr {s t : State} (h : t.sectors = s.sectors) (k : SectorId) : t.sector k = s.sector k := by
  simp only [State.sector, h]

/-- The queues depend on their family alone. -/
theorem queue_congr {s t : State} (h : t.queues = s.queues) (k : SectorId) : t.queue k = s.queue k := by
  simp only [State.queue, h]

/-- The ports depend on their family alone. -/
theorem port_congr {s t : State} (h : t.ports = s.ports) (l : Link) : t.port l = s.port l := by
  simp only [State.port, h]

end Sys2Proof.Machine
end

