-- ==== Sys2Proof/Laws/Frames.lean ====
section
/-! SUPPORT. The fields each shared operation leaves alone: one lemma for each operation and field, so that no proof
unfolds an operation to see what it does not touch. -/

namespace Sys2Proof.Machine

/-! ### setQueue -/

@[simp] theorem setQueue_ftu (s : State) (k : SectorId) (q : List Notice) :
    (s.setQueue k q).ftu = s.ftu := by
  unfold State.setQueue; dsimp only; split <;> rfl
@[simp] theorem setQueue_policy (s : State) (k : SectorId) (q : List Notice) :
    (s.setQueue k q).policy = s.policy := by
  unfold State.setQueue; dsimp only; split <;> rfl
@[simp] theorem setQueue_table (s : State) (k : SectorId) (q : List Notice) :
    (s.setQueue k q).table = s.table := by
  unfold State.setQueue; dsimp only; split <;> rfl
@[simp] theorem setQueue_sectors (s : State) (k : SectorId) (q : List Notice) :
    (s.setQueue k q).sectors = s.sectors := by
  unfold State.setQueue; dsimp only; split <;> rfl
@[simp] theorem setQueue_windowOpen (s : State) (k : SectorId) (q : List Notice) :
    (s.setQueue k q).windowOpen = s.windowOpen := by
  unfold State.setQueue; dsimp only; split <;> rfl
@[simp] theorem setQueue_builder (s : State) (k : SectorId) (q : List Notice) :
    (s.setQueue k q).builder = s.builder := by
  unfold State.setQueue; dsimp only; split <;> rfl
@[simp] theorem setQueue_live (s : State) (k : SectorId) (q : List Notice) :
    (s.setQueue k q).live = s.live := by
  unfold State.setQueue; dsimp only; split <;> rfl
@[simp] theorem setQueue_next (s : State) (k : SectorId) (q : List Notice) :
    (s.setQueue k q).next = s.next := by
  unfold State.setQueue; dsimp only; split <;> rfl
@[simp] theorem setQueue_powerLow (s : State) (k : SectorId) (q : List Notice) :
    (s.setQueue k q).powerLow = s.powerLow := by
  unfold State.setQueue; dsimp only; split <;> rfl
@[simp] theorem setQueue_pending (s : State) (k : SectorId) (q : List Notice) :
    (s.setQueue k q).pending = s.pending := by
  unfold State.setQueue; dsimp only; split <;> rfl

/-! ### withdraw -/

@[simp] theorem withdraw_ftu (s : State) (t : SectorId) (i : RecIdx) :
    (s.withdraw t i).ftu = s.ftu := by
  unfold State.withdraw; split <;> simp
@[simp] theorem withdraw_policy (s : State) (t : SectorId) (i : RecIdx) :
    (s.withdraw t i).policy = s.policy := by
  unfold State.withdraw; split <;> simp
@[simp] theorem withdraw_table (s : State) (t : SectorId) (i : RecIdx) :
    (s.withdraw t i).table = s.table := by
  unfold State.withdraw; split <;> simp
@[simp] theorem withdraw_sectors (s : State) (t : SectorId) (i : RecIdx) :
    (s.withdraw t i).sectors = s.sectors := by
  unfold State.withdraw; split <;> simp
@[simp] theorem withdraw_windowOpen (s : State) (t : SectorId) (i : RecIdx) :
    (s.withdraw t i).windowOpen = s.windowOpen := by
  unfold State.withdraw; split <;> simp
@[simp] theorem withdraw_builder (s : State) (t : SectorId) (i : RecIdx) :
    (s.withdraw t i).builder = s.builder := by
  unfold State.withdraw; split <;> simp
@[simp] theorem withdraw_live (s : State) (t : SectorId) (i : RecIdx) :
    (s.withdraw t i).live = s.live := by
  unfold State.withdraw; split <;> simp
@[simp] theorem withdraw_next (s : State) (t : SectorId) (i : RecIdx) :
    (s.withdraw t i).next = s.next := by
  unfold State.withdraw; split <;> simp
@[simp] theorem withdraw_powerLow (s : State) (t : SectorId) (i : RecIdx) :
    (s.withdraw t i).powerLow = s.powerLow := by
  unfold State.withdraw; split <;> simp
@[simp] theorem withdraw_pending (s : State) (t : SectorId) (i : RecIdx) :
    (s.withdraw t i).pending = s.pending := by
  unfold State.withdraw; split <;> simp

/-! ### cancelMoveOf -/

@[simp] theorem cancelMoveOf_ftu (s : State) (i : RecIdx) :
    (s.cancelMoveOf i).ftu = s.ftu := by
  unfold State.cancelMoveOf; repeat (first | rfl | split | simp)
@[simp] theorem cancelMoveOf_policy (s : State) (i : RecIdx) :
    (s.cancelMoveOf i).policy = s.policy := by
  unfold State.cancelMoveOf; repeat (first | rfl | split | simp)
@[simp] theorem cancelMoveOf_sectors (s : State) (i : RecIdx) :
    (s.cancelMoveOf i).sectors = s.sectors := by
  unfold State.cancelMoveOf; repeat (first | rfl | split | simp)
@[simp] theorem cancelMoveOf_windowOpen (s : State) (i : RecIdx) :
    (s.cancelMoveOf i).windowOpen = s.windowOpen := by
  unfold State.cancelMoveOf; repeat (first | rfl | split | simp)
@[simp] theorem cancelMoveOf_builder (s : State) (i : RecIdx) :
    (s.cancelMoveOf i).builder = s.builder := by
  unfold State.cancelMoveOf; repeat (first | rfl | split | simp)
@[simp] theorem cancelMoveOf_live (s : State) (i : RecIdx) :
    (s.cancelMoveOf i).live = s.live := by
  unfold State.cancelMoveOf; repeat (first | rfl | split | simp)
@[simp] theorem cancelMoveOf_next (s : State) (i : RecIdx) :
    (s.cancelMoveOf i).next = s.next := by
  unfold State.cancelMoveOf; repeat (first | rfl | split | simp)
@[simp] theorem cancelMoveOf_powerLow (s : State) (i : RecIdx) :
    (s.cancelMoveOf i).powerLow = s.powerLow := by
  unfold State.cancelMoveOf; repeat (first | rfl | split | simp)
@[simp] theorem cancelMoveOf_pending (s : State) (i : RecIdx) :
    (s.cancelMoveOf i).pending = s.pending := by
  unfold State.cancelMoveOf; repeat (first | rfl | split | simp)

/-! ### cancelMovesTo -/

@[simp] theorem cancelMovesTo_ftu (s : State) (t : SectorId) :
    (s.cancelMovesTo t).ftu = s.ftu := by
  simp [State.cancelMovesTo]
@[simp] theorem cancelMovesTo_policy (s : State) (t : SectorId) :
    (s.cancelMovesTo t).policy = s.policy := by
  simp [State.cancelMovesTo]
@[simp] theorem cancelMovesTo_sectors (s : State) (t : SectorId) :
    (s.cancelMovesTo t).sectors = s.sectors := by
  simp [State.cancelMovesTo]
@[simp] theorem cancelMovesTo_windowOpen (s : State) (t : SectorId) :
    (s.cancelMovesTo t).windowOpen = s.windowOpen := by
  simp [State.cancelMovesTo]
@[simp] theorem cancelMovesTo_builder (s : State) (t : SectorId) :
    (s.cancelMovesTo t).builder = s.builder := by
  simp [State.cancelMovesTo]
@[simp] theorem cancelMovesTo_live (s : State) (t : SectorId) :
    (s.cancelMovesTo t).live = s.live := by
  simp [State.cancelMovesTo]
@[simp] theorem cancelMovesTo_next (s : State) (t : SectorId) :
    (s.cancelMovesTo t).next = s.next := by
  simp [State.cancelMovesTo]
@[simp] theorem cancelMovesTo_powerLow (s : State) (t : SectorId) :
    (s.cancelMovesTo t).powerLow = s.powerLow := by
  simp [State.cancelMovesTo]
@[simp] theorem cancelMovesTo_pending (s : State) (t : SectorId) :
    (s.cancelMovesTo t).pending = s.pending := by
  simp [State.cancelMovesTo]

/-! ### releaseBinding -/

@[simp] theorem releaseBinding_ftu (s : State) (k : SectorId) :
    (s.releaseBinding k).ftu = s.ftu := by
  simp [State.releaseBinding]
@[simp] theorem releaseBinding_policy (s : State) (k : SectorId) :
    (s.releaseBinding k).policy = s.policy := by
  simp [State.releaseBinding]
@[simp] theorem releaseBinding_windowOpen (s : State) (k : SectorId) :
    (s.releaseBinding k).windowOpen = s.windowOpen := by
  simp [State.releaseBinding]
@[simp] theorem releaseBinding_builder (s : State) (k : SectorId) :
    (s.releaseBinding k).builder = s.builder := by
  simp [State.releaseBinding]
@[simp] theorem releaseBinding_live (s : State) (k : SectorId) :
    (s.releaseBinding k).live = s.live := by
  simp [State.releaseBinding]
@[simp] theorem releaseBinding_next (s : State) (k : SectorId) :
    (s.releaseBinding k).next = s.next := by
  simp [State.releaseBinding]
@[simp] theorem releaseBinding_powerLow (s : State) (k : SectorId) :
    (s.releaseBinding k).powerLow = s.powerLow := by
  simp [State.releaseBinding]
@[simp] theorem releaseBinding_pending (s : State) (k : SectorId) :
    (s.releaseBinding k).pending = s.pending := by
  simp [State.releaseBinding]

/-! ### leaveHome -/

@[simp] theorem leaveHome_ftu (s : State) (i : RecIdx) :
    (s.leaveHome i).ftu = s.ftu := by
  unfold State.leaveHome; repeat (first | rfl | split)
@[simp] theorem leaveHome_policy (s : State) (i : RecIdx) :
    (s.leaveHome i).policy = s.policy := by
  unfold State.leaveHome; repeat (first | rfl | split)
@[simp] theorem leaveHome_table (s : State) (i : RecIdx) :
    (s.leaveHome i).table = s.table := by
  unfold State.leaveHome; repeat (first | rfl | split)
@[simp] theorem leaveHome_windowOpen (s : State) (i : RecIdx) :
    (s.leaveHome i).windowOpen = s.windowOpen := by
  unfold State.leaveHome; repeat (first | rfl | split)
@[simp] theorem leaveHome_queues (s : State) (i : RecIdx) :
    (s.leaveHome i).queues = s.queues := by
  unfold State.leaveHome; repeat (first | rfl | split)
@[simp] theorem leaveHome_builder (s : State) (i : RecIdx) :
    (s.leaveHome i).builder = s.builder := by
  unfold State.leaveHome; repeat (first | rfl | split)
@[simp] theorem leaveHome_live (s : State) (i : RecIdx) :
    (s.leaveHome i).live = s.live := by
  unfold State.leaveHome; repeat (first | rfl | split)
@[simp] theorem leaveHome_next (s : State) (i : RecIdx) :
    (s.leaveHome i).next = s.next := by
  unfold State.leaveHome; repeat (first | rfl | split)
@[simp] theorem leaveHome_ports (s : State) (i : RecIdx) :
    (s.leaveHome i).ports = s.ports := by
  unfold State.leaveHome; repeat (first | rfl | split)
@[simp] theorem leaveHome_powerLow (s : State) (i : RecIdx) :
    (s.leaveHome i).powerLow = s.powerLow := by
  unfold State.leaveHome; repeat (first | rfl | split)
@[simp] theorem leaveHome_pending (s : State) (i : RecIdx) :
    (s.leaveHome i).pending = s.pending := by
  unfold State.leaveHome; repeat (first | rfl | split)

/-! ### evaluatePresence -/

@[simp] theorem evaluatePresence_ftu (s : State) (k : SectorId) :
    (s.evaluatePresence k).ftu = s.ftu := by
  unfold State.evaluatePresence; dsimp only; repeat (first | rfl | split | simp)
@[simp] theorem evaluatePresence_policy (s : State) (k : SectorId) :
    (s.evaluatePresence k).policy = s.policy := by
  unfold State.evaluatePresence; dsimp only; repeat (first | rfl | split | simp)
@[simp] theorem evaluatePresence_windowOpen (s : State) (k : SectorId) :
    (s.evaluatePresence k).windowOpen = s.windowOpen := by
  unfold State.evaluatePresence; dsimp only; repeat (first | rfl | split | simp)
@[simp] theorem evaluatePresence_builder (s : State) (k : SectorId) :
    (s.evaluatePresence k).builder = s.builder := by
  unfold State.evaluatePresence; dsimp only; repeat (first | rfl | split | simp)
@[simp] theorem evaluatePresence_live (s : State) (k : SectorId) :
    (s.evaluatePresence k).live = s.live := by
  unfold State.evaluatePresence; dsimp only; repeat (first | rfl | split | simp)
@[simp] theorem evaluatePresence_next (s : State) (k : SectorId) :
    (s.evaluatePresence k).next = s.next := by
  unfold State.evaluatePresence; dsimp only; repeat (first | rfl | split | simp)
@[simp] theorem evaluatePresence_powerLow (s : State) (k : SectorId) :
    (s.evaluatePresence k).powerLow = s.powerLow := by
  unfold State.evaluatePresence; dsimp only; repeat (first | rfl | split | simp)
@[simp] theorem evaluatePresence_pending (s : State) (k : SectorId) :
    (s.evaluatePresence k).pending = s.pending := by
  unfold State.evaluatePresence; dsimp only; repeat (first | rfl | split | simp)

/-! ### presence -/

@[simp] theorem presence_ftu (s : State) :
    (s.presence).ftu = s.ftu := by
  simp [State.presence, allSectors]
@[simp] theorem presence_policy (s : State) :
    (s.presence).policy = s.policy := by
  simp [State.presence, allSectors]
@[simp] theorem presence_windowOpen (s : State) :
    (s.presence).windowOpen = s.windowOpen := by
  simp [State.presence, allSectors]
@[simp] theorem presence_builder (s : State) :
    (s.presence).builder = s.builder := by
  simp [State.presence, allSectors]
@[simp] theorem presence_live (s : State) :
    (s.presence).live = s.live := by
  simp [State.presence, allSectors]
@[simp] theorem presence_next (s : State) :
    (s.presence).next = s.next := by
  simp [State.presence, allSectors]
@[simp] theorem presence_powerLow (s : State) :
    (s.presence).powerLow = s.powerLow := by
  simp [State.presence, allSectors]
@[simp] theorem presence_pending (s : State) :
    (s.presence).pending = s.pending := by
  simp [State.presence, allSectors]

/-! ### raiseAges -/

@[simp] theorem raiseAges_ftu (s : State) :
    (s.raiseAges).ftu = s.ftu := by
  simp [State.raiseAges]
@[simp] theorem raiseAges_policy (s : State) :
    (s.raiseAges).policy = s.policy := by
  simp [State.raiseAges]
@[simp] theorem raiseAges_sectors (s : State) :
    (s.raiseAges).sectors = s.sectors := by
  simp [State.raiseAges]
@[simp] theorem raiseAges_windowOpen (s : State) :
    (s.raiseAges).windowOpen = s.windowOpen := by
  simp [State.raiseAges]
@[simp] theorem raiseAges_queues (s : State) :
    (s.raiseAges).queues = s.queues := by
  simp [State.raiseAges]
@[simp] theorem raiseAges_builder (s : State) :
    (s.raiseAges).builder = s.builder := by
  simp [State.raiseAges]
@[simp] theorem raiseAges_live (s : State) :
    (s.raiseAges).live = s.live := by
  simp [State.raiseAges]
@[simp] theorem raiseAges_next (s : State) :
    (s.raiseAges).next = s.next := by
  simp [State.raiseAges]
@[simp] theorem raiseAges_ports (s : State) :
    (s.raiseAges).ports = s.ports := by
  simp [State.raiseAges]
@[simp] theorem raiseAges_powerLow (s : State) :
    (s.raiseAges).powerLow = s.powerLow := by
  simp [State.raiseAges]
@[simp] theorem raiseAges_pending (s : State) :
    (s.raiseAges).pending = s.pending := by
  simp [State.raiseAges]

/-! ### startBuild -/

@[simp] theorem startBuild_ftu (s : State) :
    (s.startBuild).ftu = s.ftu := by
  simp [State.startBuild]
@[simp] theorem startBuild_policy (s : State) :
    (s.startBuild).policy = s.policy := by
  simp [State.startBuild]
@[simp] theorem startBuild_windowOpen (s : State) :
    (s.startBuild).windowOpen = s.windowOpen := by
  simp [State.startBuild]
@[simp] theorem startBuild_live (s : State) :
    (s.startBuild).live = s.live := by
  simp [State.startBuild]
@[simp] theorem startBuild_next (s : State) :
    (s.startBuild).next = s.next := by
  simp [State.startBuild]
@[simp] theorem startBuild_powerLow (s : State) :
    (s.startBuild).powerLow = s.powerLow := by
  simp [State.startBuild]
@[simp] theorem startBuild_pending (s : State) :
    (s.startBuild).pending = s.pending := by
  simp [State.startBuild]

/-! ### commitCredits -/

@[simp] theorem commitCredits_ftu (s : State) (snap : Snapshot) (w : Work) :
    (s.commitCredits snap w).ftu = s.ftu := by
  simp [State.commitCredits]
@[simp] theorem commitCredits_policy (s : State) (snap : Snapshot) (w : Work) :
    (s.commitCredits snap w).policy = s.policy := by
  simp [State.commitCredits]
@[simp] theorem commitCredits_sectors (s : State) (snap : Snapshot) (w : Work) :
    (s.commitCredits snap w).sectors = s.sectors := by
  simp [State.commitCredits]
@[simp] theorem commitCredits_windowOpen (s : State) (snap : Snapshot) (w : Work) :
    (s.commitCredits snap w).windowOpen = s.windowOpen := by
  simp [State.commitCredits]
@[simp] theorem commitCredits_queues (s : State) (snap : Snapshot) (w : Work) :
    (s.commitCredits snap w).queues = s.queues := by
  simp [State.commitCredits]
@[simp] theorem commitCredits_builder (s : State) (snap : Snapshot) (w : Work) :
    (s.commitCredits snap w).builder = s.builder := by
  simp [State.commitCredits]
@[simp] theorem commitCredits_live (s : State) (snap : Snapshot) (w : Work) :
    (s.commitCredits snap w).live = s.live := by
  simp [State.commitCredits]
@[simp] theorem commitCredits_next (s : State) (snap : Snapshot) (w : Work) :
    (s.commitCredits snap w).next = s.next := by
  simp [State.commitCredits]
@[simp] theorem commitCredits_ports (s : State) (snap : Snapshot) (w : Work) :
    (s.commitCredits snap w).ports = s.ports := by
  simp [State.commitCredits]
@[simp] theorem commitCredits_powerLow (s : State) (snap : Snapshot) (w : Work) :
    (s.commitCredits snap w).powerLow = s.powerLow := by
  simp [State.commitCredits]
@[simp] theorem commitCredits_pending (s : State) (snap : Snapshot) (w : Work) :
    (s.commitCredits snap w).pending = s.pending := by
  simp [State.commitCredits]

/-! ### commitHeads -/

@[simp] theorem commitHeads_ftu (s : State) (w : Work) :
    (s.commitHeads w).ftu = s.ftu := rfl
@[simp] theorem commitHeads_policy (s : State) (w : Work) :
    (s.commitHeads w).policy = s.policy := rfl
@[simp] theorem commitHeads_table (s : State) (w : Work) :
    (s.commitHeads w).table = s.table := rfl
@[simp] theorem commitHeads_windowOpen (s : State) (w : Work) :
    (s.commitHeads w).windowOpen = s.windowOpen := rfl
@[simp] theorem commitHeads_queues (s : State) (w : Work) :
    (s.commitHeads w).queues = s.queues := rfl
@[simp] theorem commitHeads_builder (s : State) (w : Work) :
    (s.commitHeads w).builder = s.builder := rfl
@[simp] theorem commitHeads_live (s : State) (w : Work) :
    (s.commitHeads w).live = s.live := rfl
@[simp] theorem commitHeads_next (s : State) (w : Work) :
    (s.commitHeads w).next = s.next := rfl
@[simp] theorem commitHeads_ports (s : State) (w : Work) :
    (s.commitHeads w).ports = s.ports := rfl
@[simp] theorem commitHeads_powerLow (s : State) (w : Work) :
    (s.commitHeads w).powerLow = s.powerLow := rfl
@[simp] theorem commitHeads_pending (s : State) (w : Work) :
    (s.commitHeads w).pending = s.pending := rfl

/-! ### complete -/

@[simp] theorem complete_ftu (s : State) :
    (s.complete).ftu = s.ftu := by
  unfold State.complete; split <;> simp
@[simp] theorem complete_policy (s : State) :
    (s.complete).policy = s.policy := by
  unfold State.complete; split <;> simp
@[simp] theorem complete_windowOpen (s : State) :
    (s.complete).windowOpen = s.windowOpen := by
  unfold State.complete; split <;> simp
@[simp] theorem complete_queues (s : State) :
    (s.complete).queues = s.queues := by
  unfold State.complete; split <;> simp
@[simp] theorem complete_live (s : State) :
    (s.complete).live = s.live := by
  unfold State.complete; split <;> simp
@[simp] theorem complete_powerLow (s : State) :
    (s.complete).powerLow = s.powerLow := by
  unfold State.complete; split <;> simp
@[simp] theorem complete_pending (s : State) :
    (s.complete).pending = s.pending := by
  unfold State.complete; split <;> simp

/-! ### ageBuild -/

@[simp] theorem ageBuild_ftu (s : State) :
    (s.ageBuild).ftu = s.ftu := by
  unfold State.ageBuild; repeat (first | rfl | split | simp)
@[simp] theorem ageBuild_policy (s : State) :
    (s.ageBuild).policy = s.policy := by
  unfold State.ageBuild; repeat (first | rfl | split | simp)
@[simp] theorem ageBuild_windowOpen (s : State) :
    (s.ageBuild).windowOpen = s.windowOpen := by
  unfold State.ageBuild; repeat (first | rfl | split | simp)
@[simp] theorem ageBuild_queues (s : State) :
    (s.ageBuild).queues = s.queues := by
  unfold State.ageBuild; repeat (first | rfl | split | simp)
@[simp] theorem ageBuild_live (s : State) :
    (s.ageBuild).live = s.live := by
  unfold State.ageBuild; repeat (first | rfl | split | simp)
@[simp] theorem ageBuild_powerLow (s : State) :
    (s.ageBuild).powerLow = s.powerLow := by
  unfold State.ageBuild; repeat (first | rfl | split | simp)
@[simp] theorem ageBuild_pending (s : State) :
    (s.ageBuild).pending = s.pending := by
  unfold State.ageBuild; repeat (first | rfl | split | simp)

/-! ### repeatLive -/

@[simp] theorem repeatLive_ftu (s : State) (frame : Nat) (b : Bool) :
    (s.repeatLive frame b).ftu = s.ftu := by
  unfold State.repeatLive; split <;> simp
@[simp] theorem repeatLive_policy (s : State) (frame : Nat) (b : Bool) :
    (s.repeatLive frame b).policy = s.policy := by
  unfold State.repeatLive; split <;> simp
@[simp] theorem repeatLive_table (s : State) (frame : Nat) (b : Bool) :
    (s.repeatLive frame b).table = s.table := by
  unfold State.repeatLive; split <;> simp
@[simp] theorem repeatLive_sectors (s : State) (frame : Nat) (b : Bool) :
    (s.repeatLive frame b).sectors = s.sectors := by
  unfold State.repeatLive; split <;> simp
@[simp] theorem repeatLive_windowOpen (s : State) (frame : Nat) (b : Bool) :
    (s.repeatLive frame b).windowOpen = s.windowOpen := by
  unfold State.repeatLive; split <;> simp
@[simp] theorem repeatLive_queues (s : State) (frame : Nat) (b : Bool) :
    (s.repeatLive frame b).queues = s.queues := by
  unfold State.repeatLive; split <;> simp
@[simp] theorem repeatLive_builder (s : State) (frame : Nat) (b : Bool) :
    (s.repeatLive frame b).builder = s.builder := by
  unfold State.repeatLive; split <;> simp
@[simp] theorem repeatLive_powerLow (s : State) (frame : Nat) (b : Bool) :
    (s.repeatLive frame b).powerLow = s.powerLow := by
  unfold State.repeatLive; split <;> simp
@[simp] theorem repeatLive_pending (s : State) (frame : Nat) (b : Bool) :
    (s.repeatLive frame b).pending = s.pending := by
  unfold State.repeatLive; split <;> simp

/-! ### planFrameStart -/

@[simp] theorem planFrameStart_ftu (s : State) (frame : Nat) :
    (s.planFrameStart frame).ftu = s.ftu := by
  unfold State.planFrameStart; dsimp only; split <;> first | rfl | (split <;> simp) | simp
@[simp] theorem planFrameStart_policy (s : State) (frame : Nat) :
    (s.planFrameStart frame).policy = s.policy := by
  unfold State.planFrameStart; dsimp only; split <;> first | rfl | (split <;> simp) | simp
@[simp] theorem planFrameStart_table (s : State) (frame : Nat) :
    (s.planFrameStart frame).table = s.table := by
  unfold State.planFrameStart; dsimp only; split <;> first | rfl | (split <;> simp) | simp
@[simp] theorem planFrameStart_sectors (s : State) (frame : Nat) :
    (s.planFrameStart frame).sectors = s.sectors := by
  unfold State.planFrameStart; dsimp only; split <;> first | rfl | (split <;> simp) | simp
@[simp] theorem planFrameStart_windowOpen (s : State) (frame : Nat) :
    (s.planFrameStart frame).windowOpen = s.windowOpen := by
  unfold State.planFrameStart; dsimp only; split <;> first | rfl | (split <;> simp) | simp
@[simp] theorem planFrameStart_queues (s : State) (frame : Nat) :
    (s.planFrameStart frame).queues = s.queues := by
  unfold State.planFrameStart; dsimp only; split <;> first | rfl | (split <;> simp) | simp
@[simp] theorem planFrameStart_powerLow (s : State) (frame : Nat) :
    (s.planFrameStart frame).powerLow = s.powerLow := by
  unfold State.planFrameStart; dsimp only; split <;> first | rfl | (split <;> simp) | simp
@[simp] theorem planFrameStart_pending (s : State) (frame : Nat) :
    (s.planFrameStart frame).pending = s.pending := by
  unfold State.planFrameStart; dsimp only; split <;> first | rfl | (split <;> simp) | simp

/-! ### countdown -/

@[simp] theorem countdown_ftu (s : State) :
    (s.countdown).ftu = s.ftu := by
  simp [State.countdown, allSectors]
@[simp] theorem countdown_policy (s : State) :
    (s.countdown).policy = s.policy := by
  simp [State.countdown, allSectors]
@[simp] theorem countdown_sectors (s : State) :
    (s.countdown).sectors = s.sectors := by
  simp [State.countdown, allSectors]
@[simp] theorem countdown_windowOpen (s : State) :
    (s.countdown).windowOpen = s.windowOpen := by
  simp [State.countdown, allSectors]
@[simp] theorem countdown_builder (s : State) :
    (s.countdown).builder = s.builder := by
  simp [State.countdown, allSectors]
@[simp] theorem countdown_live (s : State) :
    (s.countdown).live = s.live := by
  simp [State.countdown, allSectors]
@[simp] theorem countdown_next (s : State) :
    (s.countdown).next = s.next := by
  simp [State.countdown, allSectors]
@[simp] theorem countdown_powerLow (s : State) :
    (s.countdown).powerLow = s.powerLow := by
  simp [State.countdown, allSectors]
@[simp] theorem countdown_pending (s : State) :
    (s.countdown).pending = s.pending := by
  simp [State.countdown, allSectors]

/-! ### slotEvent -/

@[simp] theorem slotEvent_ftu (s : State) (k : Nat) :
    (s.slotEvent k).ftu = s.ftu := by
  unfold State.slotEvent; dsimp only; repeat (first | rfl | split | simp)
@[simp] theorem slotEvent_policy (s : State) (k : Nat) :
    (s.slotEvent k).policy = s.policy := by
  unfold State.slotEvent; dsimp only; repeat (first | rfl | split | simp)
@[simp] theorem slotEvent_live (s : State) (k : Nat) :
    (s.slotEvent k).live = s.live := by
  unfold State.slotEvent; dsimp only; repeat (first | rfl | split | simp)
@[simp] theorem slotEvent_next (s : State) (k : Nat) :
    (s.slotEvent k).next = s.next := by
  unfold State.slotEvent; dsimp only; repeat (first | rfl | split | simp)
@[simp] theorem slotEvent_powerLow (s : State) (k : Nat) :
    (s.slotEvent k).powerLow = s.powerLow := by
  unfold State.slotEvent; dsimp only; repeat (first | rfl | split | simp)
@[simp] theorem slotEvent_pending (s : State) (k : Nat) :
    (s.slotEvent k).pending = s.pending := by
  unfold State.slotEvent; dsimp only; repeat (first | rfl | split | simp)

/-! ### slotEvents -/

@[simp] theorem slotEvents_ftu (s : State) (ks : List Nat) :
    (s.slotEvents ks).ftu = s.ftu := by
  unfold State.slotEvents; induction ks generalizing s with
  | nil => rfl
  | cons k ks ih => simp [ih]
@[simp] theorem slotEvents_policy (s : State) (ks : List Nat) :
    (s.slotEvents ks).policy = s.policy := by
  unfold State.slotEvents; induction ks generalizing s with
  | nil => rfl
  | cons k ks ih => simp [ih]
@[simp] theorem slotEvents_live (s : State) (ks : List Nat) :
    (s.slotEvents ks).live = s.live := by
  unfold State.slotEvents; induction ks generalizing s with
  | nil => rfl
  | cons k ks ih => simp [ih]
@[simp] theorem slotEvents_next (s : State) (ks : List Nat) :
    (s.slotEvents ks).next = s.next := by
  unfold State.slotEvents; induction ks generalizing s with
  | nil => rfl
  | cons k ks ih => simp [ih]
@[simp] theorem slotEvents_powerLow (s : State) (ks : List Nat) :
    (s.slotEvents ks).powerLow = s.powerLow := by
  unfold State.slotEvents; induction ks generalizing s with
  | nil => rfl
  | cons k ks ih => simp [ih]
@[simp] theorem slotEvents_pending (s : State) (ks : List Nat) :
    (s.slotEvents ks).pending = s.pending := by
  unfold State.slotEvents; induction ks generalizing s with
  | nil => rfl
  | cons k ks ih => simp [ih]

/-! ### startFrame -/

@[simp] theorem startFrame_powerLow (s : State) :
    (s.startFrame).powerLow = s.powerLow := by
  simp [State.startFrame]
@[simp] theorem startFrame_pending (s : State) :
    (s.startFrame).pending = s.pending := by
  simp [State.startFrame]

/-! ### relock -/

@[simp] theorem relock_policy (s : State) :
    (s.relock).policy = s.policy := by
  simp [State.relock]
@[simp] theorem relock_table (s : State) :
    (s.relock).table = s.table := by
  simp [State.relock]
@[simp] theorem relock_sectors (s : State) :
    (s.relock).sectors = s.sectors := by
  simp [State.relock]
@[simp] theorem relock_windowOpen (s : State) :
    (s.relock).windowOpen = s.windowOpen := by
  simp [State.relock]
@[simp] theorem relock_queues (s : State) :
    (s.relock).queues = s.queues := by
  simp [State.relock]
@[simp] theorem relock_builder (s : State) :
    (s.relock).builder = s.builder := by
  simp [State.relock]
@[simp] theorem relock_live (s : State) :
    (s.relock).live = s.live := by
  simp [State.relock]
@[simp] theorem relock_next (s : State) :
    (s.relock).next = s.next := by
  simp [State.relock]
@[simp] theorem relock_powerLow (s : State) :
    (s.relock).powerLow = s.powerLow := by
  simp [State.relock]
@[simp] theorem relock_pending (s : State) :
    (s.relock).pending = s.pending := by
  simp [State.relock]

/-! ### expire -/

@[simp] theorem expire_policy (s : State) :
    (s.expire).policy = s.policy := by
  simp [State.expire]
@[simp] theorem expire_table (s : State) :
    (s.expire).table = s.table := by
  simp [State.expire]
@[simp] theorem expire_sectors (s : State) :
    (s.expire).sectors = s.sectors := by
  simp [State.expire]
@[simp] theorem expire_windowOpen (s : State) :
    (s.expire).windowOpen = s.windowOpen := by
  simp [State.expire]
@[simp] theorem expire_queues (s : State) :
    (s.expire).queues = s.queues := by
  simp [State.expire]
@[simp] theorem expire_builder (s : State) :
    (s.expire).builder = s.builder := by
  simp [State.expire]
@[simp] theorem expire_live (s : State) :
    (s.expire).live = s.live := by
  simp [State.expire]
@[simp] theorem expire_next (s : State) :
    (s.expire).next = s.next := by
  simp [State.expire]
@[simp] theorem expire_powerLow (s : State) :
    (s.expire).powerLow = s.powerLow := by
  simp [State.expire]
@[simp] theorem expire_pending (s : State) :
    (s.expire).pending = s.pending := by
  simp [State.expire]

/-! ### goodPulse -/

@[simp] theorem goodPulse_policy (s : State) (k : Nat) :
    (s.goodPulse k).policy = s.policy := by
  unfold State.goodPulse; split <;> simp
@[simp] theorem goodPulse_table (s : State) (k : Nat) :
    (s.goodPulse k).table = s.table := by
  unfold State.goodPulse; split <;> simp
@[simp] theorem goodPulse_sectors (s : State) (k : Nat) :
    (s.goodPulse k).sectors = s.sectors := by
  unfold State.goodPulse; split <;> simp
@[simp] theorem goodPulse_windowOpen (s : State) (k : Nat) :
    (s.goodPulse k).windowOpen = s.windowOpen := by
  unfold State.goodPulse; split <;> simp
@[simp] theorem goodPulse_queues (s : State) (k : Nat) :
    (s.goodPulse k).queues = s.queues := by
  unfold State.goodPulse; split <;> simp
@[simp] theorem goodPulse_builder (s : State) (k : Nat) :
    (s.goodPulse k).builder = s.builder := by
  unfold State.goodPulse; split <;> simp
@[simp] theorem goodPulse_live (s : State) (k : Nat) :
    (s.goodPulse k).live = s.live := by
  unfold State.goodPulse; split <;> simp
@[simp] theorem goodPulse_next (s : State) (k : Nat) :
    (s.goodPulse k).next = s.next := by
  unfold State.goodPulse; split <;> simp
@[simp] theorem goodPulse_powerLow (s : State) (k : Nat) :
    (s.goodPulse k).powerLow = s.powerLow := by
  unfold State.goodPulse; split <;> simp
@[simp] theorem goodPulse_pending (s : State) (k : Nat) :
    (s.goodPulse k).pending = s.pending := by
  unfold State.goodPulse; split <;> simp

/-! ### strayPulse -/

@[simp] theorem strayPulse_policy (s : State) :
    (s.strayPulse).policy = s.policy := rfl
@[simp] theorem strayPulse_table (s : State) :
    (s.strayPulse).table = s.table := rfl
@[simp] theorem strayPulse_sectors (s : State) :
    (s.strayPulse).sectors = s.sectors := rfl
@[simp] theorem strayPulse_windowOpen (s : State) :
    (s.strayPulse).windowOpen = s.windowOpen := rfl
@[simp] theorem strayPulse_queues (s : State) :
    (s.strayPulse).queues = s.queues := rfl
@[simp] theorem strayPulse_builder (s : State) :
    (s.strayPulse).builder = s.builder := rfl
@[simp] theorem strayPulse_live (s : State) :
    (s.strayPulse).live = s.live := rfl
@[simp] theorem strayPulse_next (s : State) :
    (s.strayPulse).next = s.next := rfl
@[simp] theorem strayPulse_ports (s : State) :
    (s.strayPulse).ports = s.ports := rfl
@[simp] theorem strayPulse_powerLow (s : State) :
    (s.strayPulse).powerLow = s.powerLow := rfl
@[simp] theorem strayPulse_pending (s : State) :
    (s.strayPulse).pending = s.pending := rfl

/-! ### glitchPulse -/

@[simp] theorem glitchPulse_policy (s : State) :
    (s.glitchPulse).policy = s.policy := rfl
@[simp] theorem glitchPulse_table (s : State) :
    (s.glitchPulse).table = s.table := rfl
@[simp] theorem glitchPulse_sectors (s : State) :
    (s.glitchPulse).sectors = s.sectors := rfl
@[simp] theorem glitchPulse_windowOpen (s : State) :
    (s.glitchPulse).windowOpen = s.windowOpen := rfl
@[simp] theorem glitchPulse_queues (s : State) :
    (s.glitchPulse).queues = s.queues := rfl
@[simp] theorem glitchPulse_builder (s : State) :
    (s.glitchPulse).builder = s.builder := rfl
@[simp] theorem glitchPulse_live (s : State) :
    (s.glitchPulse).live = s.live := rfl
@[simp] theorem glitchPulse_next (s : State) :
    (s.glitchPulse).next = s.next := rfl
@[simp] theorem glitchPulse_ports (s : State) :
    (s.glitchPulse).ports = s.ports := rfl
@[simp] theorem glitchPulse_powerLow (s : State) :
    (s.glitchPulse).powerLow = s.powerLow := rfl
@[simp] theorem glitchPulse_pending (s : State) :
    (s.glitchPulse).pending = s.pending := rfl

/-! ### advance -/

@[simp] theorem advance_policy (s : State) :
    (s.advance).policy = s.policy := by
  simp [State.advance]
@[simp] theorem advance_live (s : State) :
    (s.advance).live = s.live := by
  simp [State.advance]
@[simp] theorem advance_next (s : State) :
    (s.advance).next = s.next := by
  simp [State.advance]
@[simp] theorem advance_powerLow (s : State) :
    (s.advance).powerLow = s.powerLow := by
  simp [State.advance]
@[simp] theorem advance_pending (s : State) :
    (s.advance).pending = s.pending := by
  simp [State.advance]

/-! ### outstanding -/

@[simp] theorem outstanding_ftu (s : State) :
    (s.outstanding).ftu = s.ftu := by
  simp [State.outstanding]
@[simp] theorem outstanding_policy (s : State) :
    (s.outstanding).policy = s.policy := by
  simp [State.outstanding]
@[simp] theorem outstanding_live (s : State) :
    (s.outstanding).live = s.live := by
  simp [State.outstanding]
@[simp] theorem outstanding_next (s : State) :
    (s.outstanding).next = s.next := by
  simp [State.outstanding]
@[simp] theorem outstanding_powerLow (s : State) :
    (s.outstanding).powerLow = s.powerLow := by
  simp [State.outstanding]
@[simp] theorem outstanding_pending (s : State) :
    (s.outstanding).pending = s.pending := by
  simp [State.outstanding]

/-! ### setN -/

@[simp] theorem setN_ftu (s : State) (n : Nat) :
    (s.setN n).ftu = s.ftu := by
  unfold State.setN; dsimp only; split <;> simp
@[simp] theorem setN_table (s : State) (n : Nat) :
    (s.setN n).table = s.table := by
  unfold State.setN; dsimp only; split <;> simp
@[simp] theorem setN_windowOpen (s : State) (n : Nat) :
    (s.setN n).windowOpen = s.windowOpen := by
  unfold State.setN; dsimp only; split <;> simp
@[simp] theorem setN_queues (s : State) (n : Nat) :
    (s.setN n).queues = s.queues := by
  unfold State.setN; dsimp only; split <;> simp
@[simp] theorem setN_builder (s : State) (n : Nat) :
    (s.setN n).builder = s.builder := by
  unfold State.setN; dsimp only; split <;> simp
@[simp] theorem setN_live (s : State) (n : Nat) :
    (s.setN n).live = s.live := by
  unfold State.setN; dsimp only; split <;> simp
@[simp] theorem setN_next (s : State) (n : Nat) :
    (s.setN n).next = s.next := by
  unfold State.setN; dsimp only; split <;> simp
@[simp] theorem setN_powerLow (s : State) (n : Nat) :
    (s.setN n).powerLow = s.powerLow := by
  unfold State.setN; dsimp only; split <;> simp
@[simp] theorem setN_pending (s : State) (n : Nat) :
    (s.setN n).pending = s.pending := by
  unfold State.setN; dsimp only; split <;> simp

/-! ### restart -/

@[simp] theorem restart_ftu (s : State) :
    (s.restart).ftu = s.ftu := by
  unfold State.restart; dsimp only; split <;> simp
@[simp] theorem restart_policy (s : State) :
    (s.restart).policy = s.policy := by
  unfold State.restart; dsimp only; split <;> simp
@[simp] theorem restart_windowOpen (s : State) :
    (s.restart).windowOpen = s.windowOpen := by
  unfold State.restart; dsimp only; split <;> simp
@[simp] theorem restart_powerLow (s : State) :
    (s.restart).powerLow = s.powerLow := by
  unfold State.restart; dsimp only; split <;> simp
@[simp] theorem restart_pending (s : State) :
    (s.restart).pending = s.pending := by
  unfold State.restart; dsimp only; split <;> simp

/-! ### clearPlanReady -/

@[simp] theorem clearPlanReady_ftu (s : State) (l : Link) (frame : Nat) :
    (s.clearPlanReady l frame).ftu = s.ftu := by
  unfold State.clearPlanReady; split <;> simp
@[simp] theorem clearPlanReady_policy (s : State) (l : Link) (frame : Nat) :
    (s.clearPlanReady l frame).policy = s.policy := by
  unfold State.clearPlanReady; split <;> simp
@[simp] theorem clearPlanReady_table (s : State) (l : Link) (frame : Nat) :
    (s.clearPlanReady l frame).table = s.table := by
  unfold State.clearPlanReady; split <;> simp
@[simp] theorem clearPlanReady_sectors (s : State) (l : Link) (frame : Nat) :
    (s.clearPlanReady l frame).sectors = s.sectors := by
  unfold State.clearPlanReady; split <;> simp
@[simp] theorem clearPlanReady_windowOpen (s : State) (l : Link) (frame : Nat) :
    (s.clearPlanReady l frame).windowOpen = s.windowOpen := by
  unfold State.clearPlanReady; split <;> simp
@[simp] theorem clearPlanReady_queues (s : State) (l : Link) (frame : Nat) :
    (s.clearPlanReady l frame).queues = s.queues := by
  unfold State.clearPlanReady; split <;> simp
@[simp] theorem clearPlanReady_builder (s : State) (l : Link) (frame : Nat) :
    (s.clearPlanReady l frame).builder = s.builder := by
  unfold State.clearPlanReady; split <;> simp
@[simp] theorem clearPlanReady_live (s : State) (l : Link) (frame : Nat) :
    (s.clearPlanReady l frame).live = s.live := by
  unfold State.clearPlanReady; split <;> simp
@[simp] theorem clearPlanReady_next (s : State) (l : Link) (frame : Nat) :
    (s.clearPlanReady l frame).next = s.next := by
  unfold State.clearPlanReady; split <;> simp
@[simp] theorem clearPlanReady_powerLow (s : State) (l : Link) (frame : Nat) :
    (s.clearPlanReady l frame).powerLow = s.powerLow := by
  unfold State.clearPlanReady; split <;> simp
@[simp] theorem clearPlanReady_pending (s : State) (l : Link) (frame : Nat) :
    (s.clearPlanReady l frame).pending = s.pending := by
  unfold State.clearPlanReady; split <;> simp

/-! ### assertSelect -/

@[simp] theorem assertSelect_ftu (s : State) (l : Link) :
    (s.assertSelect l).ftu = s.ftu := by
  unfold State.assertSelect; split <;> simp
@[simp] theorem assertSelect_policy (s : State) (l : Link) :
    (s.assertSelect l).policy = s.policy := by
  unfold State.assertSelect; split <;> simp
@[simp] theorem assertSelect_table (s : State) (l : Link) :
    (s.assertSelect l).table = s.table := by
  unfold State.assertSelect; split <;> simp
@[simp] theorem assertSelect_sectors (s : State) (l : Link) :
    (s.assertSelect l).sectors = s.sectors := by
  unfold State.assertSelect; split <;> simp
@[simp] theorem assertSelect_windowOpen (s : State) (l : Link) :
    (s.assertSelect l).windowOpen = s.windowOpen := by
  unfold State.assertSelect; split <;> simp
@[simp] theorem assertSelect_queues (s : State) (l : Link) :
    (s.assertSelect l).queues = s.queues := by
  unfold State.assertSelect; split <;> simp
@[simp] theorem assertSelect_builder (s : State) (l : Link) :
    (s.assertSelect l).builder = s.builder := by
  unfold State.assertSelect; split <;> simp
@[simp] theorem assertSelect_live (s : State) (l : Link) :
    (s.assertSelect l).live = s.live := by
  unfold State.assertSelect; split <;> simp
@[simp] theorem assertSelect_next (s : State) (l : Link) :
    (s.assertSelect l).next = s.next := by
  unfold State.assertSelect; split <;> simp
@[simp] theorem assertSelect_powerLow (s : State) (l : Link) :
    (s.assertSelect l).powerLow = s.powerLow := by
  unfold State.assertSelect; split <;> simp
@[simp] theorem assertSelect_pending (s : State) (l : Link) :
    (s.assertSelect l).pending = s.pending := by
  unfold State.assertSelect; split <;> simp

/-! ### clockLink -/

@[simp] theorem clockLink_ftu (s : State) (l : Link) (bits : List Bool) :
    (s.clockLink l bits).ftu = s.ftu := by
  unfold State.clockLink; split <;> simp
@[simp] theorem clockLink_policy (s : State) (l : Link) (bits : List Bool) :
    (s.clockLink l bits).policy = s.policy := by
  unfold State.clockLink; split <;> simp
@[simp] theorem clockLink_table (s : State) (l : Link) (bits : List Bool) :
    (s.clockLink l bits).table = s.table := by
  unfold State.clockLink; split <;> simp
@[simp] theorem clockLink_sectors (s : State) (l : Link) (bits : List Bool) :
    (s.clockLink l bits).sectors = s.sectors := by
  unfold State.clockLink; split <;> simp
@[simp] theorem clockLink_windowOpen (s : State) (l : Link) (bits : List Bool) :
    (s.clockLink l bits).windowOpen = s.windowOpen := by
  unfold State.clockLink; split <;> simp
@[simp] theorem clockLink_queues (s : State) (l : Link) (bits : List Bool) :
    (s.clockLink l bits).queues = s.queues := by
  unfold State.clockLink; split <;> simp
@[simp] theorem clockLink_builder (s : State) (l : Link) (bits : List Bool) :
    (s.clockLink l bits).builder = s.builder := by
  unfold State.clockLink; split <;> simp
@[simp] theorem clockLink_live (s : State) (l : Link) (bits : List Bool) :
    (s.clockLink l bits).live = s.live := by
  unfold State.clockLink; split <;> simp
@[simp] theorem clockLink_next (s : State) (l : Link) (bits : List Bool) :
    (s.clockLink l bits).next = s.next := by
  unfold State.clockLink; split <;> simp
@[simp] theorem clockLink_powerLow (s : State) (l : Link) (bits : List Bool) :
    (s.clockLink l bits).powerLow = s.powerLow := by
  unfold State.clockLink; split <;> simp
@[simp] theorem clockLink_pending (s : State) (l : Link) (bits : List Bool) :
    (s.clockLink l bits).pending = s.pending := by
  unfold State.clockLink; split <;> simp

/-! ### skip -/

@[simp] theorem skip_policy (s : State) (n : Nat) :
    (s.skip n).policy = s.policy := by
  unfold State.skip; dsimp only; repeat (first | rfl | split | simp)
@[simp] theorem skip_windowOpen (s : State) (n : Nat) :
    (s.skip n).windowOpen = s.windowOpen := by
  unfold State.skip; dsimp only; repeat (first | rfl | split | simp)
@[simp] theorem skip_queues (s : State) (n : Nat) :
    (s.skip n).queues = s.queues := by
  unfold State.skip; dsimp only; repeat (first | rfl | split | simp)
@[simp] theorem skip_live (s : State) (n : Nat) :
    (s.skip n).live = s.live := by
  unfold State.skip; dsimp only; repeat (first | rfl | split | simp)
@[simp] theorem skip_powerLow (s : State) (n : Nat) :
    (s.skip n).powerLow = s.powerLow := by
  unfold State.skip; dsimp only; repeat (first | rfl | split | simp)
@[simp] theorem skip_pending (s : State) (n : Nat) :
    (s.skip n).pending = s.pending := by
  unfold State.skip; dsimp only; repeat (first | rfl | split | simp)

/-! ### An edge and a quiet stretch -/

@[simp] theorem edgeLocked_powerLow (s : State) (p : Bool) :
    (s.edgeLocked p).powerLow = s.powerLow := by
  unfold State.edgeLocked; dsimp only; repeat (first | rfl | split | simp)
@[simp] theorem edgeLocked_pending (s : State) (p : Bool) :
    (s.edgeLocked p).pending = s.pending := by
  unfold State.edgeLocked; dsimp only; repeat (first | rfl | split | simp)
@[simp] theorem edgeFree_powerLow (s : State) (p : Bool) :
    (s.edgeFree p).powerLow = s.powerLow := by
  unfold State.edgeFree; dsimp only; repeat (first | rfl | split | simp)
@[simp] theorem edgeFree_pending (s : State) (p : Bool) :
    (s.edgeFree p).pending = s.pending := by
  unfold State.edgeFree; dsimp only; repeat (first | rfl | split | simp)
@[simp] theorem edge_powerLow (s : State) (level : Bool) :
    (s.edge level).powerLow = s.powerLow := by
  unfold State.edge; dsimp only; split <;> simp
@[simp] theorem toNextSlot_powerLow (s : State) :
    s.toNextSlot.powerLow = s.powerLow := by
  simp [State.toNextSlot]
theorem iterate_toNextSlot_powerLow (n : Nat) (s : State) :
    (State.toNextSlot^[n] s).powerLow = s.powerLow := by
  induction n generalizing s with
  | zero => rfl
  | succ n ih => rw [Function.iterate_succ_apply, ih, toNextSlot_powerLow]
@[simp] theorem toNextFrame_powerLow (s : State) :
    s.toNextFrame.powerLow = s.powerLow := iterate_toNextSlot_powerLow _ s
@[simp] theorem toMoveEnd_powerLow (i : RecIdx) (n : Nat) (s : State) :
    (State.toMoveEnd i n s).powerLow = s.powerLow := by
  induction n generalizing s with
  | zero => rfl
  | succ n ih => unfold State.toMoveEnd; split <;> simp [ih]
@[simp] theorem edge_pending (s : State) (level : Bool) :
    (s.edge level).pending = s.pending := by
  unfold State.edge; dsimp only; split <;> simp
@[simp] theorem toNextSlot_pending (s : State) :
    s.toNextSlot.pending = s.pending := by
  simp [State.toNextSlot]
theorem iterate_toNextSlot_pending (n : Nat) (s : State) :
    (State.toNextSlot^[n] s).pending = s.pending := by
  induction n generalizing s with
  | zero => rfl
  | succ n ih => rw [Function.iterate_succ_apply, ih, toNextSlot_pending]
@[simp] theorem toNextFrame_pending (s : State) :
    s.toNextFrame.pending = s.pending := iterate_toNextSlot_pending _ s
@[simp] theorem toMoveEnd_pending (i : RecIdx) (n : Nat) (s : State) :
    (State.toMoveEnd i n s).pending = s.pending := by
  induction n generalizing s with
  | zero => rfl
  | succ n ih => unfold State.toMoveEnd; split <;> simp [ih]

end Sys2Proof.Machine
end

