-- ==== Sys2Proof/Laws/Requests.lean ====
section
/-! SUPPORT. What taking a request does, once for all requests: the right, the binding and the owner; and what the lookups
by link, by id and by handle find. -/

namespace Sys2Proof.Machine

open Sys2Proof.Safety

/-! ### The right and the owner -/

/-- With the right it needs, a request is its owner's answer put into the link's buffer. -/
theorem serve_allowed {s : State} {kind : ReqKind} {l : Link} (tag : Byte) (owner : State → Answer)
    (h : (s.rights l).allow (rightNeeded kind) = true) :
    s.serve kind l tag owner =
      (owner s).state.putResponse l (reply kind tag (owner s).status (owner s).body) := by
  simp only [State.serve, if_pos h, reply]

/-- Without the right it needs, a request is refused NO_RIGHT and nothing else happens. -/
theorem serve_denied {s : State} {kind : ReqKind} {l : Link} (tag : Byte) (owner : State → Answer)
    (h : (s.rights l).allow (rightNeeded kind) = false) :
    s.serve kind l tag owner = s.putResponse l (reply kind tag .noRight []) := by
  simp only [State.serve, h, reply]; rfl

/-- Everything taking a request can do: the refusal of its right, or what its owner answers. -/
theorem serve_cases (s : State) (kind : ReqKind) (l : Link) (tag : Byte) (owner : State → Answer) :
    ((s.rights l).allow (rightNeeded kind) = false ∧
      s.serve kind l tag owner = s.putResponse l (reply kind tag .noRight [])) ∨
    ((s.rights l).allow (rightNeeded kind) = true ∧
      s.serve kind l tag owner =
        (owner s).state.putResponse l (reply kind tag (owner s).status (owner s).body)) := by
  cases h : (s.rights l).allow (rightNeeded kind)
  · exact .inl ⟨rfl, serve_denied tag owner h⟩
  · exact .inr ⟨rfl, serve_allowed tag owner h⟩

/-! ### The binding of a link -/

/-- The sector a link is bound to is the one found. -/
theorem boundSector_of_boundTo {s : State} {l : Link} {k : SectorId} (h : BoundTo s l k) : s.boundSector l = some k := by
  obtain ⟨hk, hu⟩ := h
  unfold State.boundSector
  rcases hf : allSectors.find? (fun k => decide ((s.sector k).state.link? = some l)) with _ | j
  · rw [List.find?_eq_none] at hf
    exact absurd (decide_eq_true hk) (hf k (mem_allSectors k))
  · have := List.find?_some hf
    rw [hu j (of_decide_eq_true this)]

/-- A link bound to no sector finds none. -/
theorem boundSector_of_unbound {s : State} {l : Link} (h : Unbound s l) : s.boundSector l = none := by
  unfold State.boundSector
  rw [List.find?_eq_none]
  intro k _
  simpa using h k

/-- The sector found for a link is bound to it. -/
theorem link_of_boundSector {s : State} {l : Link} {k : SectorId} (h : s.boundSector l = some k) :
    (s.sector k).state.link? = some l := by
  have := List.find?_some h
  exact of_decide_eq_true this

/-- With its right and its binding, a request on the bound sector is its owner's answer. -/
theorem serveBound_bound {s : State} {kind : ReqKind} {l : Link} {k : SectorId} (tag : Byte)
    (owner : SectorId → State → Answer) (h : (s.rights l).allow (rightNeeded kind) = true) (hb : BoundTo s l k) :
    s.serveBound kind l tag owner =
      (owner k s).state.putResponse l (reply kind tag (owner k s).status (owner k s).body) := by
  simp only [State.serveBound, serve_allowed tag _ h, boundSector_of_boundTo hb]

/-- From a link bound to no sector, a request on the bound sector is refused NOT_BOUND. -/
theorem serveBound_unbound {s : State} {kind : ReqKind} {l : Link} (tag : Byte)
    (owner : SectorId → State → Answer) (h : (s.rights l).allow (rightNeeded kind) = true) (hb : Unbound s l) :
    s.serveBound kind l tag owner = s.putResponse l (reply kind tag .notBound []) := by
  simp only [State.serveBound, serve_allowed tag _ h, boundSector_of_unbound hb, refuse]

/-! ### Lookups -/

/-- A held id is found at its record. -/
theorem findById_of_holds {s : State} {i : RecIdx} {o : Occupant} (h : Holds s i o) : s.findById o.id = some (i, o) := by
  obtain ⟨hi, hu⟩ := h
  unfold State.findById
  rcases hf : allRecords.findSome? (fun j => match s.occupant j with
      | some q => if q.id = o.id then some (j, q) else none
      | none => none) with _ | ⟨j, q⟩
  · rw [List.findSome?_eq_none_iff] at hf
    have := hf i (mem_allRecords i)
    simp [hi] at this
  · obtain ⟨x, -, hx⟩ := List.exists_of_findSome?_eq_some hf
    rcases ho : s.occupant x with _ | q'
    · simp [ho] at hx
    · simp only [ho] at hx
      split at hx
      · rename_i hid
        obtain ⟨rfl, rfl⟩ := Prod.mk.inj (Option.some.inj hx)
        by_cases hxi : x = i
        · subst hxi
          rw [hi] at ho; rw [Option.some.inj ho]
        · exact absurd hid (hu x hxi q' ho)
      · simp at hx

/-- An id that no record holds is not found. -/
theorem findById_of_unused {s : State} {id : Nat} (h : IdUnused s id) : s.findById id = none := by
  unfold State.findById
  rw [List.findSome?_eq_none_iff]
  intro j _
  rcases ho : s.occupant j with _ | q
  · rfl
  · simp [h j q ho]

/-- A record found by an id is in use and holds it. -/
theorem occupant_of_findById {s : State} {id : Nat} {i : RecIdx} {o : Occupant} (h : s.findById id = some (i, o)) :
    s.occupant i = some o ∧ o.id = id := by
  obtain ⟨x, -, hx⟩ := List.exists_of_findSome?_eq_some h
  rcases ho : s.occupant x with _ | q
  · simp [ho] at hx
  · simp only [ho] at hx
    split at hx
    · rename_i hid
      obtain ⟨rfl, rfl⟩ := Prod.mk.inj (Option.some.inj hx)
      exact ⟨ho, hid⟩
    · simp at hx

/-- The lowest FREE record is the one found. -/
theorem lowestFree_eq {s : State} {i : RecIdx} (hi : s.occupant i = none) (hlt : ∀ j, j < i → s.occupant j ≠ none) :
    s.lowestFree = some i := by
  unfold State.lowestFree
  rw [List.find?_eq_some_iff_getElem]
  refine ⟨by simp [hi], i.val, ?_, ?_, ?_⟩
  · simp [allRecords]
  · simp [allRecords]
  · intro j hj
    have hj' : j < 192 := lt_trans hj i.isLt
    have := hlt ⟨j, hj'⟩ hj
    simp only [allRecords, List.getElem_finRange, Fin.cast_mk]
    simpa [Option.isSome_iff_ne_none] using this

/-- A full table has no FREE record. -/
theorem lowestFree_none {s : State} (h : ∀ j, s.occupant j ≠ none) : s.lowestFree = none := by
  unfold State.lowestFree
  rw [List.find?_eq_none]
  intro j _
  simpa [Option.isNone_iff_eq_none] using h j

/-- A handle that no entry of the map names is free. -/
theorem handleEntry_none {s : State} {k : SectorId} {h : Nat} (hf : ∀ e ∈ (s.sector k).map, e.handle ≠ h) :
    s.handleEntry k h = none := by
  unfold State.handleEntry
  rw [List.find?_eq_none]
  intro e he
  simpa using hf e he

/-- A record found by a handle is the occupant its map entry names. -/
theorem lookup_some {s : State} {k : SectorId} {h : Nat} {i : RecIdx} {o : Occupant} (hl : s.lookup k h = some (i, o)) :
    s.occupant i = some o ∧ ∃ e ∈ (s.sector k).map, e.handle = h ∧ e.index = i := by
  unfold State.lookup at hl
  rcases hf : (s.sector k).map.find? (fun e => decide (e.handle = h)) with _ | e
  · simp [hf] at hl
  · simp only [hf] at hl
    rcases ho : s.occupant e.index with _ | q
    · simp [ho] at hl
    · simp only [ho, Option.map_some, Option.some.injEq, Prod.mk.injEq] at hl
      obtain ⟨rfl, rfl⟩ := hl
      have hh := List.find?_some hf
      exact ⟨ho, e, List.mem_of_find?_eq_some hf, by simpa using hh, rfl⟩

/-- Putting a response into a buffer twice keeps the second. -/
theorem putResponse_putResponse (s : State) (l : Link) (r r' : Response) :
    (s.putResponse l r).putResponse l r' = s.putResponse l r' := by
  cases l <;> rfl

/-- Replacing a port twice keeps the second. -/
@[simp] theorem setPort_setPort (s : State) (l : Link) (p q : Port) : (s.setPort l p).setPort l q = s.setPort l q := by
  cases l <;> rfl

/-- Replacing a port by itself changes nothing. -/
@[simp] theorem setPort_self (s : State) (l : Link) : s.setPort l (s.port l) = s := by
  cases l <;> rfl

end Sys2Proof.Machine
end

