-- ==== Sys2Proof/Laws/Ops.lean ====
section
/-! SUPPORT. What the shared operations over queues, moves, bindings, maps, rings and plans do, each said once. -/

namespace Sys2Proof.Machine

open Sys2Proof.Safety

/-! ### Numbers -/

/-- A clamped value lies in its range. -/
theorem clampTo_mem {lo hi : Nat} (h : lo ≤ hi) (v : Nat) : lo ≤ clampTo lo hi v ∧ clampTo lo hi v ≤ hi := by
  unfold clampTo; omega

/-- A value in its range is not changed by clamping. -/
theorem clampTo_of_mem {lo hi v : Nat} (h : lo ≤ v) (h' : v ≤ hi) : clampTo lo hi v = v := by
  unfold clampTo; omega

/-- Rounding up: the product is at least the dividend, and by less than the divisor. -/
theorem ceilDiv_bounds {b : Nat} (hb : 0 < b) (a : Nat) : a ≤ ceilDiv a b * b ∧ ceilDiv a b * b < a + b := by
  unfold ceilDiv
  have h := Nat.div_add_mod (a + b - 1) b
  have h' := Nat.mod_lt (a + b - 1) hb
  rw [Nat.mul_comm] at h
  omega

/-- A sector is found by its number. -/
@[simp] theorem sectorOf_sectorNo (k : SectorId) : sectorOf (sectorNo k) = some k := by cases k <;> rfl

/-- A link is found by its number. -/
@[simp] theorem linkOf_linkNo (l : Link) : linkOf (linkNo l) = some l := by cases l <;> rfl

/-- A number names a sector exactly when it is that sector's. -/
theorem sectorOf_eq_some {n : Nat} {k : SectorId} : sectorOf n = some k ↔ sectorNo k = n := by
  constructor
  · intro h
    rcases n with _ | _ | _ | n <;> simp only [sectorOf, Option.some.injEq, reduceCtorEq] at h <;> subst h <;> rfl
  · rintro rfl; exact sectorOf_sectorNo k

/-- A number above 2 names no sector. -/
theorem sectorOf_eq_none {n : Nat} (h : 2 < n) : sectorOf n = none := by
  rcases n with _ | _ | _ | n <;> first | omega | rfl

/-! ### Notice queues and HANDOVER (R140) -/

/-- Replacing a queue replaces that sector's alone. -/
theorem setQueue_queue (s : State) (k j : SectorId) (q : List Notice) :
    (s.setQueue k q).queue j = if j = k then q else s.queue j := by
  have h : (s.setQueue k q).queues = s.queues.set k q := by unfold State.setQueue; dsimp only; split <;> rfl
  simp only [State.queue, h, PerSector.get_set]

/-- Replacing a queue makes HANDOVER follow it on the link the sector is bound to, and touches no port otherwise. -/
theorem setQueue_port (s : State) (k : SectorId) (q : List Notice) (l : Link) :
    (s.setQueue k q).port l =
      if (s.sector k).state.link? = some l then
        { s.port l with causes := { (s.port l).causes with handover := !q.isEmpty } }
      else s.port l := by
  rcases h : (s.sector k).state.link? with _ | j
  · simp only [State.setQueue, State.sector] at h ⊢
    simp [h, State.port]
  · have : s.setQueue k q = ({ s with queues := s.queues.set k q } : State).setHandover j (!q.isEmpty) := by
      simp only [State.setQueue, State.sector] at h ⊢
      simp [h]
    rw [this, State.setHandover]
    by_cases hj : l = j
    · subst hj; rw [port_setPort_same, if_pos rfl]; rfl
    · rw [port_setPort_other _ _ hj, if_neg (by simpa using fun e => hj e.symm)]; rfl

/-- Withdrawing a notice takes it out of that sector's queue alone. -/
theorem withdraw_queue (s : State) (t j : SectorId) (i : RecIdx) :
    (s.withdraw t i).queue j = if j = t then (s.queue t).filter fun n => decide (n.index ≠ i) else s.queue j := by
  unfold State.withdraw
  split
  · rw [setQueue_queue]
  · rename_i h
    by_cases hj : j = t
    · subst hj
      rw [if_pos rfl, eq_comm, List.filter_eq_self]
      intro n hn
      simp only [noticeQueued, Bool.not_eq_true, List.any_eq_false, decide_eq_true_eq] at h
      simpa using h n hn
    · rw [if_neg hj]

/-- Withdrawing a notice touches HANDOVER alone, on the link the sector is bound to, and only if the notice was queued. -/
theorem withdraw_port (s : State) (t : SectorId) (i : RecIdx) (l : Link) :
    (s.withdraw t i).port l =
      if noticeQueued i (s.queue t) = true ∧ (s.sector t).state.link? = some l then
        { s.port l with causes := { (s.port l).causes with
          handover := !((s.queue t).filter fun n => decide (n.index ≠ i)).isEmpty } }
      else s.port l := by
  unfold State.withdraw
  split
  · rename_i h; rw [setQueue_port]; simp only [h, true_and]
  · rename_i h; rw [if_neg fun hh => h hh.1]

/-! ### Ends of moves (R146, R149) -/

/-- Ending a move settles the record alone. -/
theorem cancelMoveOf_occupant (s : State) (i j : RecIdx) :
    (s.cancelMoveOf i).occupant j =
      if j = i then (s.occupant i).map fun o => { o with attachment := o.attachment.settled } else s.occupant j := by
  unfold State.cancelMoveOf
  by_cases hj : j = i
  · subst hj
    rw [if_pos rfl]
    rcases ho : s.occupant j with _ | o
    · simp [ho]
    · rcases ha : o.attachment with _ | ⟨k, h⟩ | ⟨k, h, t, n⟩
      · cases o; simp only at ha; subst ha; simp [ho, Attachment.settled]
      · cases o; simp only at ha; subst ha; simp [ho, Attachment.settled]
      · simp only [ha, Attachment.settled, Option.map_some]
        rw [occupant_congr (withdraw_table _ t j), occupant_setOccupant_same]
  · rw [if_neg hj]
    split
    · split
      · rw [occupant_congr (withdraw_table _ _ i), occupant_setOccupant_other _ _ hj]
      · rfl
      · rfl
    · rfl

/-- Ending a move keeps every generation. -/
@[simp] theorem cancelMoveOf_generation (s : State) (i j : RecIdx) :
    ((s.cancelMoveOf i).record j).generation = (s.record j).generation := by
  unfold State.cancelMoveOf
  split
  · split
    · rw [record_congr (withdraw_table _ _ i), generation_setOccupant]
    · rfl
    · rfl
  · rfl

/-- Ending a move withdraws the record's notice from its target's queue, and no other queue changes. -/
theorem cancelMoveOf_queue {s : State} {i : RecIdx} {o : Occupant} (ho : s.occupant i = some o) :
    NoticeWithdrawn s i o.attachment (s.cancelMoveOf i) := by
  intro k
  unfold State.cancelMoveOf
  simp only [ho]
  rcases ha : o.attachment with _ | ⟨k', h⟩ | ⟨k', h, t, n⟩
  · simp [Attachment.movesTo, Attachment.move?]
  · simp [Attachment.movesTo, Attachment.move?]
  · simp only [withdraw_queue, Attachment.movesTo, Attachment.move?, decide_eq_true_eq]
    by_cases hk : k = t
    · subst hk; simp [queue_congr (setOccupant_queues s i _)]
    · simp [hk, Ne.symm hk, queue_congr (setOccupant_queues s i _)]

/-- Cancelling the moves to a sector settles the records that move there, and no other. -/
theorem cancelMovesTo_occupant (s : State) (t : SectorId) (i : RecIdx) :
    (s.cancelMovesTo t).occupant i =
      (s.occupant i).map fun o =>
        if o.attachment.movesTo t = true then { o with attachment := o.attachment.settled } else o := by
  rw [State.cancelMovesTo, occupant_congr (setQueue_table _ t []), occupant_mapOccupants]

/-- Cancelling the moves to a sector keeps every generation. -/
@[simp] theorem cancelMovesTo_generation (s : State) (t : SectorId) (i : RecIdx) :
    ((s.cancelMovesTo t).record i).generation = (s.record i).generation := by
  rw [State.cancelMovesTo, record_congr (setQueue_table _ t []), record_mapOccupants]

/-- Cancelling the moves to a sector empties its queue, and no other queue changes. -/
theorem cancelMovesTo_queue (s : State) (t j : SectorId) :
    (s.cancelMovesTo t).queue j = if j = t then [] else s.queue j := by
  rw [State.cancelMovesTo, setQueue_queue, queue_congr (mapOccupants_queues s _)]

/-- Cancelling the moves to a sector clears HANDOVER on its link, and touches no port otherwise. -/
theorem cancelMovesTo_port (s : State) (t : SectorId) (l : Link) :
    (s.cancelMovesTo t).port l =
      if (s.sector t).state.link? = some l then
        { s.port l with causes := { (s.port l).causes with handover := false } }
      else s.port l := by
  rw [State.cancelMovesTo, setQueue_port, sector_congr (mapOccupants_sectors s _), port_congr (mapOccupants_ports s _)]
  rfl

/-- The end of a binding does what R59 says and no more. -/
theorem released_releaseBinding (s : State) (k : SectorId) : Released s k (s.releaseBinding k) := by
  have hs : ∀ j, (s.cancelMovesTo k).sector j = s.sector j := sector_congr (cancelMovesTo_sectors s k)
  have ht : (s.releaseBinding k).table = (s.cancelMovesTo k).table := rfl
  have hq : (s.releaseBinding k).queues = (s.cancelMovesTo k).queues := rfl
  have hsec : ∀ j, (s.releaseBinding k).sector j =
      ((s.cancelMovesTo k).setSector k { s.sector k with state := .unbound, batchSeen := false }).sector j := by
    intro j; rw [State.releaseBinding, hs k]; rfl
  refine ⟨?_, ?_, ?_, ?_, ?_, ?_, ?_, ?_, ?_⟩
  · rw [hsec, sector_setSector_same]
  · intro j hj; rw [hsec, sector_setSector_other _ _ hj, hs]
  · intro i; rw [record_congr ht, cancelMovesTo_generation]
  · intro i hi; rw [occupant_congr ht, cancelMovesTo_occupant, hi]; rfl
  · intro i o ho
    rw [occupant_congr ht, cancelMovesTo_occupant, ho]
    constructor
    · rintro h n f ha; simp [ha, Attachment.movesTo, Attachment.move?, Attachment.settled]
    · intro hn
      rcases ha : o.attachment with _ | ⟨k', h⟩ | ⟨k', h, t, n⟩
      · simp [Attachment.movesTo, Attachment.move?, ha]
      · simp [Attachment.movesTo, Attachment.move?, ha]
      · have : t ≠ k := fun e => hn k' h n (by rw [ha, e])
        simp [Attachment.movesTo, Attachment.move?, this, ha]
  · rw [queue_congr hq, cancelMovesTo_queue, if_pos rfl]
  · intro j hj; rw [queue_congr hq, cancelMovesTo_queue, if_neg hj]
  · intro j
    have : (s.releaseBinding k).port j = ((s.cancelMovesTo k).port j).withCauses
        { ((s.cancelMovesTo k).port j).causes with sectorState := true } := by
      simp only [State.releaseBinding, State.raiseSectorState, port_mapPorts]; rfl
    rw [this, cancelMovesTo_port]
    split <;> rfl
  · have h1 := releaseBinding_ftu s k; have h2 := releaseBinding_policy s k
    have h3 := releaseBinding_windowOpen s k; have h4 := releaseBinding_builder s k
    have h5 := releaseBinding_live s k; have h6 := releaseBinding_next s k
    have h7 := releaseBinding_powerLow s k; have h8 := releaseBinding_pending s k
    generalize s.releaseBinding k = u at *
    cases u; cases s; simp_all

/-! ### Handle maps and rings (R61, R66 to R68) -/

/-- Adding an entry to a map adds that entry alone. -/
@[simp] theorem mem_mapInsert {e f : MapEntry} {m : List MapEntry} : f ∈ mapInsert e m ↔ f = e ∨ f ∈ m := by
  induction m with
  | nil => simp [mapInsert]
  | cons g rest ih =>
    unfold mapInsert
    split
    · simp
    · simp [ih]; tauto

/-- The handles of a map with an entry added are the handles it had, and the new one. -/
theorem mapInsert_handles_perm (e : MapEntry) (m : List MapEntry) :
    ((mapInsert e m).map MapEntry.handle).Perm (e.handle :: m.map MapEntry.handle) := by
  induction m with
  | nil => exact List.Perm.refl _
  | cons g rest ih =>
    unfold mapInsert
    split
    · exact List.Perm.refl _
    · exact (ih.cons _).trans (List.Perm.swap _ _ _)

/-- Taking a handle out of a map keeps the entries of the other handles. -/
@[simp] theorem mem_mapErase {h : Nat} {e : MapEntry} {m : List MapEntry} :
    e ∈ mapErase h m ↔ e ∈ m ∧ e.handle ≠ h := by
  simp [mapErase]

/-- The successor of a record within a list is the member that follows it. -/
theorem nextAfter_append {i : RecIdx} {a b : List RecIdx} (ha : i ∉ a) : nextAfter i (a ++ i :: b) = b.head? := by
  induction a with
  | nil => cases b <;> simp [nextAfter]
  | cons x a ih =>
    have hx : x ≠ i := fun e => ha (by simp [e])
    have ha' : i ∉ a := fun h => ha (by simp [h])
    have ih := ih ha'
    cases a with
    | nil => cases b <;> simp_all [nextAfter]
    | cons y a => simpa [nextAfter, hx] using ih

/-- A head standing on the record that leaves moves to the record that follows it round the ring, if there is one. -/
theorem headAfterLeave_append {i : RecIdx} {a b : List RecIdx} (ha : i ∉ a) (hb : i ∉ b) (head : Option RecIdx) :
    headAfterLeave i (a ++ i :: b) head = if head = some i then (b ++ a).head? else head := by
  unfold headAfterLeave ringSuccessor
  split
  · rw [if_pos (by simp), nextAfter_append ha]
    rcases b with _ | ⟨y, b⟩
    · rcases a with _ | ⟨x, a⟩
      · simp
      · have : x ≠ i := fun e => ha (by simp [e])
        simp [this]
    · have : y ≠ i := fun e => hb (by simp [e])
      simp [this]
  · rfl

/-! ### Plans -/

/-- Marking grants void acts on LIVE and on a BUILT NEXT (R128). -/
theorem voidWhere_eq (f : SectorId → Grant → Bool) (s : State) :
    s.voidWhere f = { s with live := liveVoided f s.live, next := nextVoided f s.next } := rfl

/-- The grants marked for a record are those of its index and generation. -/
theorem grantFor_eq (i : RecIdx) (generation : Nat) : grantFor i generation = isFor i generation := by
  funext g
  simp [grantFor, isFor]

/-- The matching test of R103 and R104. -/
theorem stillHeld_iff (s : State) (k : SectorId) (i : RecIdx) (generation handle : Nat) :
    stillHeld s k i generation handle = true ↔ Matches s k i generation handle := by
  unfold stillHeld Matches
  rcases s.occupant i with _ | o <;> simp

/-- The void test of R103. -/
theorem grantFails_iff (s : State) (k : SectorId) (g : Grant) : grantFails s k g = false ↔ GrantStands s k g := by
  unfold grantFails GrantStands
  rw [Bool.or_eq_false_iff, Bool.not_eq_false', stillHeld_iff]
  unfold isSuspended
  constructor
  · rintro ⟨hm, hs⟩
    obtain ⟨hg, o, ho, hp⟩ := hm
    exact ⟨⟨hg, o, ho, hp⟩, o, ho, by simpa [show s.occupant g.index = some o from ho] using hs⟩
  · rintro ⟨hm, o, ho, hs⟩
    exact ⟨hm, by simp [show s.occupant g.index = some o from ho, hs]⟩

/-- PLAN READY is raised, with its ready frame, on the link of a PRESENT sector (R133). -/
theorem raisePlanReady_port_present {s : State} (frame : Nat) {l : Link} {k : SectorId}
    (h : (s.sector k).state = .present l) :
    (s.raisePlanReady frame).port l =
      { s.port l with causes := { (s.port l).causes with planReady := true }, readyFrame := frame } := by
  unfold State.raisePlanReady
  rw [port_mapPorts, if_pos]
  rw [List.any_eq_true]
  exact ⟨k, mem_allSectors k, decide_eq_true h⟩

/-- Raising PLAN READY leaves the other links alone (R133). -/
theorem raisePlanReady_port_other {s : State} (frame : Nat) {l : Link} (h : ∀ k, (s.sector k).state ≠ .present l) :
    (s.raisePlanReady frame).port l = s.port l := by
  unfold State.raisePlanReady
  rw [port_mapPorts, if_neg]
  rw [List.any_eq_true]
  rintro ⟨k, -, hk⟩
  exact h k (of_decide_eq_true hk)

end Sys2Proof.Machine
end

