-- ==== Sys2Proof/Laws/Build.lean ====
section
/-! SUPPORT. The build: what a placement attempt, a walk, the presence evaluation of one sector and the build start can
do, each said once. -/

namespace Sys2Proof.Machine

open Sys2Proof.Safety

/-! ### The working state -/

@[simp] theorem work_at_put_same (w : Work) (dir : Dir) (v : DirWork) : (w.put dir v).at dir = v := by
  cases dir <;> rfl

@[simp] theorem work_at_put_other (w : Work) {dir dir' : Dir} (v : DirWork) (h : dir' ≠ dir) :
    (w.put dir v).at dir' = w.at dir' := by
  cases dir <;> cases dir' <;> first | rfl | exact absurd rfl h

@[simp] theorem put_occupancy (w : Work) (dir : Dir) (v : DirWork) : (w.put dir v).occupancy = w.occupancy := by
  cases dir <;> rfl

@[simp] theorem put_dlCount (w : Work) (dir : Dir) (v : DirWork) : (w.put dir v).dlCount = w.dlCount := by
  cases dir <;> rfl

@[simp] theorem update_grants (v : DirWork) (i : RecIdx) (f : WorkRecord → WorkRecord) :
    (v.update i f).grants = v.grants := rfl

/-- Updating a record keeps the records' indices, when the update does. -/
theorem update_indices (v : DirWork) (i : RecIdx) {f : WorkRecord → WorkRecord} (hf : ∀ r, (f r).index = r.index) :
    (v.update i f).records.map WorkRecord.index = v.records.map WorkRecord.index := by
  simp only [DirWork.update, List.map_map]
  apply List.map_congr_left
  intro r _
  simp only [Function.comp]
  split <;> simp [hf]

/-! ### The scan (R110 to R112) -/

/-- The tiles of the downlink lie below 6D and those of the uplink from 6D to 95 (R110). -/
theorem mem_dirTiles {d t : Nat} {dir : Dir} (h : t ∈ dirTiles d dir) : inDir d dir t = true ∧ (t < 96 ∨ 16 < d) := by
  cases dir
  · simp only [dirTiles, List.mem_range] at h
    simp only [inDir, decide_eq_true_eq]; omega
  · simp only [dirTiles, List.mem_range'_1] at h
    simp only [inDir, decide_eq_true_eq]; omega

/-- The tiles of a direction stand in ascending order (R110). -/
theorem dirTiles_pairwise (d : Nat) (dir : Dir) : (dirTiles d dir).Pairwise (· < ·) := by
  cases dir
  · exact List.pairwise_lt_range
  · exact List.pairwise_lt_range'

/-- A tile the scan finds is of its direction and qualifies, and no lower tile of the direction does (R110). -/
theorem scan_some {snap : Snapshot} {dir : Dir} {occ : List Assignment} {e : Entry} {t : Nat}
    (h : scan snap dir occ e = some t) :
    t ∈ dirTiles snap.d dir ∧ qualifies snap occ e t = true ∧
      ∀ u ∈ dirTiles snap.d dir, u < t → qualifies snap occ e u = false := by
  refine ⟨List.mem_of_find?_eq_some h, List.find?_some h, fun u hu hlt => ?_⟩
  have hp := dirTiles_pairwise snap.d dir
  obtain ⟨-, as, bs, hl, has⟩ := List.find?_eq_some_iff_append.1 h
  rw [hl] at hu hp
  rcases List.mem_append.1 hu with h | h
  · simpa using has u h
  · rcases List.mem_cons.1 h with rfl | h
    · omega
    · have := (List.pairwise_cons.1 (List.pairwise_append.1 hp).2.1).1 u h
      omega

/-- The scan finds nothing when no tile of the direction qualifies. -/
theorem scan_none {snap : Snapshot} {dir : Dir} {occ : List Assignment} {e : Entry} (h : scan snap dir occ e = none) :
    ∀ t ∈ dirTiles snap.d dir, qualifies snap occ e t = false := by
  intro t ht
  have := List.find?_eq_none.1 h t ht
  simpa using this

/-- The four conditions of R111, one by one. -/
theorem qualifies_iff (snap : Snapshot) (occ : List Assignment) (e : Entry) (t : Nat) :
    qualifies snap occ e t = true ↔
      (∀ a ∈ occ, ¬(a.sector = e.home ∧ a.tile = t)) ∧ (snap.mask e.home).getLsbD t = false ∧
      (∀ a ∈ occ, a.tile = t → snap.adjacency.between e.home a.sector = true → e.outer = false ∧ a.outer = false) ∧
      (90 ≤ t → snap.umin ≤ usableOf snap e) := by
  have h3 : ∀ a : Assignment, (¬((a.tile = t ∧ snap.adjacency.between e.home a.sector = true) ∧
      (e.outer = true ∨ a.outer = true))) ↔
      (a.tile = t → snap.adjacency.between e.home a.sector = true → e.outer = false ∧ a.outer = false) := by
    intro a
    cases e.outer <;> cases a.outer <;> simp
  simp only [qualifies, freeIn, notBarred, reuseAllowed, edgeFit, inEdge, Bool.and_eq_true, List.all_eq_true,
    Bool.not_eq_true', Bool.or_eq_true, decide_eq_true_eq, Bool.eq_false_iff, ne_eq, h3]
  have h4 : (¬90 ≤ t ∨ snap.umin ≤ usableOf snap e) ↔ (90 ≤ t → snap.umin ≤ usableOf snap e) := by tauto
  rw [h4]
  tauto

/-- Adjacency does not depend on the order of the two sectors (R5). -/
theorem between_comm (a : Adjacency) (j k : SectorId) : a.between j k = a.between k j := by
  cases j <;> cases k <;> rfl

/-! ### Placement attempts (R92, R93, R98) -/

/-- Everything a placement attempt can do: refused by the budget, a tile placed, or refused by the scan and the record
blocked. -/
theorem attempt_cases (snap : Snapshot) (dir : Dir) (pass : Pass) (e : Entry) (w : Work) :
    (budgetSpent snap dir w = true ∧ attempt snap dir pass e w = (w, .noBudget)) ∨
    (budgetSpent snap dir w = false ∧ ∃ t, scan snap dir w.occupancy e = some t ∧
      attempt snap dir pass e w = (placeTile dir pass e t w, .placed)) ∨
    (budgetSpent snap dir w = false ∧ scan snap dir w.occupancy e = none ∧
      attempt snap dir pass e w = (w.put dir ((w.at dir).update e.index fun r => { r with blocked := true }), .blocked)) := by
  unfold attempt
  rcases hb : budgetSpent snap dir w
  · right
    rcases hs : scan snap dir w.occupancy e with _ | t
    · exact .inr ⟨rfl, rfl, by simp⟩
    · exact .inl ⟨rfl, t, rfl, by simp⟩
  · exact .inl ⟨rfl, by simp⟩

/-- Placing a tile adds one assignment, the last. -/
@[simp] theorem placeTile_occupancy (dir : Dir) (pass : Pass) (e : Entry) (t : Nat) (w : Work) :
    (placeTile dir pass e t w).occupancy =
      w.occupancy ++ [{ sector := e.home, tile := t, index := e.index, outer := e.outer }] := by
  simp [placeTile]

/-- Placing a tile counts it against the budget in the downlink (R98). -/
@[simp] theorem placeTile_dlCount (dir : Dir) (pass : Pass) (e : Entry) (t : Nat) (w : Work) :
    (placeTile dir pass e t w).dlCount = match dir with | .dl => w.dlCount + 1 | .ul => w.dlCount := by
  cases dir <;> rfl

/-- Placing a tile lowers the record's need and lengthens its grant (R92, R100). -/
@[simp] theorem placeTile_at_same (dir : Dir) (pass : Pass) (e : Entry) (t : Nat) (w : Work) :
    (placeTile dir pass e t w).at dir =
      { (w.at dir).update e.index fun r => { r with need := r.need - 1 } with
        grants := addToGrant pass e t (w.at dir).grants } := by
  cases dir <;> rfl

/-- Placing a tile leaves the other direction's working fields alone. -/
theorem placeTile_at_other {dir dir' : Dir} (h : dir' ≠ dir) (pass : Pass) (e : Entry) (t : Nat) (w : Work) :
    (placeTile dir pass e t w).at dir' = w.at dir' := by
  cases dir <;> cases dir' <;> first | rfl | exact absurd rfl h

/-- A record of a walk takes part in the build (R91). -/
theorem mem_entries_of_mem_walkOf {snap : Snapshot} {dir : Dir} {e : Entry} (h : e ∈ walkOf snap dir) :
    e ∈ snap.entries := by
  simp only [walkOf, List.mem_flatMap] at h
  obtain ⟨v, hv, he⟩ := h
  simp only [Snapshot.entries, List.mem_flatMap]
  refine ⟨v, hv, ?_⟩
  split at he
  · rw [List.mem_filterMap] at he ⊢
    obtain ⟨r, hr, hre⟩ := he
    refine ⟨r, ?_, hre⟩
    rcases List.mem_append.1 hr with h | h
    · exact List.dropWhile_subset _ h
    · exact List.takeWhile_subset _ h
  · cases he

/-- A property that placing a qualifying tile, blocking a record, spending a credit and moving the position keep is kept
by the turns of all three passes: here for the occupancy and the downlink count. -/
theorem attempt_keeps {P : Work → Prop} {snap : Snapshot} {dir : Dir} {pass : Pass} {e : Entry} {w : Work}
    (hput : ∀ v, P w → P (w.put dir v))
    (hplace : ∀ t, budgetSpent snap dir w = false → scan snap dir w.occupancy e = some t → P w →
      P (placeTile dir pass e t w))
    (h : P w) : P (attempt snap dir pass e w).1 := by
  rcases attempt_cases snap dir pass e w with ⟨_, hc⟩ | ⟨hb, t, hs, hc⟩ | ⟨_, _, hc⟩
  · rw [hc]; exact h
  · rw [hc]; exact hplace t hb hs h
  · rw [hc]; exact hput _ h

/-! ### Presence and build start (R79, R85) -/

/-- Everything the presence evaluation of one sector can do. -/
theorem evaluatePresence_cases (s : State) (k : SectorId) :
    let v := s.sector k
    let t := s.setSector k { v with state := v.stateAfter s.policy.m, missed := v.missedAfter, batchSeen := false }
    (v.state.link? = none ∧ s.evaluatePresence k = s) ∨
    (∃ l, v.state.link? = some l ∧
      ((v.stateAfter s.policy.m = v.state ∧ s.evaluatePresence k = t) ∨
        (v.stateAfter s.policy.m = .present l ∧ v.state = .silent l ∧
          s.evaluatePresence k = t.raiseSectorState) ∨
        (v.stateAfter s.policy.m = .silent l ∧ v.state = .present l ∧
          s.evaluatePresence k = (t.cancelMovesTo k).raiseSectorState))) := by
  intro v t
  rcases hs : v.state with _ | _ | l | l
  · refine .inl ⟨rfl, ?_⟩
    simp only [State.evaluatePresence]
    rw [show (s.sector k).state = _ from hs]; rfl
  · refine .inl ⟨rfl, ?_⟩
    simp only [State.evaluatePresence]
    rw [show (s.sector k).state = _ from hs]; rfl
  · refine .inr ⟨l, rfl, ?_⟩
    have he : s.evaluatePresence k = if v.stateAfter s.policy.m = v.state then t
        else if (v.stateAfter s.policy.m).isPresent then t.raiseSectorState
        else (t.cancelMovesTo k).raiseSectorState := by
      simp only [State.evaluatePresence]
      rw [show (s.sector k).state.link? = some l by rw [show (s.sector k).state = _ from hs]; rfl]
    have ha : v.stateAfter s.policy.m = if v.batchSeen then .present l else .silent l := by
      unfold Sector.stateAfter; rw [hs]
    rw [he]
    by_cases hb : v.batchSeen = true
    · rw [if_pos hb] at ha
      right; left
      refine ⟨ha, rfl, ?_⟩
      rw [if_neg (by rw [ha, hs]; simp), if_pos (by rw [ha]; rfl)]
    · rw [if_neg hb] at ha
      left
      exact ⟨ha, by rw [if_pos (by rw [ha, hs])]⟩
  · refine .inr ⟨l, rfl, ?_⟩
    have he : s.evaluatePresence k = if v.stateAfter s.policy.m = v.state then t
        else if (v.stateAfter s.policy.m).isPresent then t.raiseSectorState
        else (t.cancelMovesTo k).raiseSectorState := by
      simp only [State.evaluatePresence]
      rw [show (s.sector k).state.link? = some l by rw [show (s.sector k).state = _ from hs]; rfl]
    have ha : v.stateAfter s.policy.m =
        if v.batchSeen then .present l else if s.policy.m ≤ v.missedAfter then .silent l else .present l := by
      unfold Sector.stateAfter; rw [hs]
    rw [he]
    by_cases hb : v.batchSeen = true
    · rw [if_pos hb] at ha
      left
      exact ⟨ha, by rw [if_pos (by rw [ha, hs])]⟩
    · rw [if_neg hb] at ha
      by_cases hm : s.policy.m ≤ v.missedAfter
      · rw [if_pos hm] at ha
        right; right
        refine ⟨ha, rfl, ?_⟩
        rw [if_neg (by rw [ha, hs]; simp), if_neg (by rw [ha]; simp [SectorState.isPresent])]
      · rw [if_neg hm] at ha
        left
        exact ⟨ha, by rw [if_pos (by rw [ha, hs])]⟩

/-- A build start puts a build at its first step in flight, its snapshot taken after presence evaluation. -/
theorem startBuild_builder (s : State) :
    s.startBuild.builder =
      some { snapshot := snapshotOf s.presence, work := Work.start (snapshotOf s.presence), age := 0 } := rfl

/-- Completing a build makes the Plan Builder idle. -/
@[simp] theorem complete_builder (s : State) : s.complete.builder = none := by
  unfold State.complete
  split
  · assumption
  · rfl

end Sys2Proof.Machine
end

