-- ==== Sys2Proof/Laws/Telegrams.lean ====
section
/-! SUPPORT. Telegrams: bits and bytes, checksums, the bodies of lists, and which request a row takes. -/

namespace Sys2Proof.Machine

open Sys2Proof.Safety

/-! ### Bits and bytes (R151) -/

/-- The eight bits of a byte, put together again, are the byte. -/
theorem byteOfBits_bits (b : Byte) :
    byteOfBits (b.getLsbD 7) (b.getLsbD 6) (b.getLsbD 5) (b.getLsbD 4) (b.getLsbD 3) (b.getLsbD 2) (b.getLsbD 1)
      (b.getLsbD 0) = b := by
  revert b; decide

/-- The bytes of the bits of a run of bytes are those bytes. -/
@[simp] theorem completeBytes_bitsOfBytes (bytes : List Byte) : completeBytes (bitsOfBytes bytes) = bytes := by
  induction bytes with
  | nil => rfl
  | cons b rest ih =>
    have : bitsOfBytes (b :: rest) = bitsOfByte b ++ bitsOfBytes rest := rfl
    rw [this, bitsOfByte]
    simp only [List.cons_append, List.nil_append, completeBytes, byteOfBits_bits, ih]

/-- A byte has eight bits. -/
@[simp] theorem length_bitsOfBytes (bytes : List Byte) : (bitsOfBytes bytes).length = 8 * bytes.length := by
  induction bytes with
  | nil => rfl
  | cons b rest ih =>
    have : bitsOfBytes (b :: rest) = bitsOfByte b ++ bitsOfBytes rest := rfl
    rw [this, List.length_append, ih]
    simp [bitsOfByte]; omega

/-! ### Checksums (R152) -/

/-- The sum of two runs of bytes is the sum of their sums. -/
theorem byteSum_append (a b : List Byte) : byteSum (a ++ b) = byteSum a + byteSum b := by
  have h : ∀ (l : List Byte) (x : Byte), l.foldl (· + ·) x = x + l.foldl (· + ·) 0 := by
    intro l
    induction l with
    | nil => simp
    | cons y l ih => intro x; rw [List.foldl_cons, List.foldl_cons, ih, ih (0 + y)]; simp [BitVec.add_assoc]
  unfold byteSum
  rw [List.foldl_append, h b]

/-- The bytes of a telegram sum to 0 modulo 256. -/
theorem byteSum_with_checksum (bytes : List Byte) : byteSum (bytes ++ [checksum bytes]) = 0 := by
  rw [byteSum_append, checksum]
  simp [byteSum, ← BitVec.sub_eq_add_neg]

/-- The bytes of a request telegram sum to 0 modulo 256. -/
theorem byteSum_requestTelegram (kind : ReqKind) (tag : Byte) (body : List Byte) :
    byteSum (requestTelegram kind tag body) = 0 := byteSum_with_checksum _

/-- The length of a request telegram. -/
@[simp] theorem length_requestTelegram (kind : ReqKind) (tag : Byte) (body : List Byte) :
    (requestTelegram kind tag body).length = 4 + body.length := by
  simp [requestTelegram]; omega

/-- A kind value names its request. -/
@[simp] theorem ofCode_code (kind : ReqKind) : ReqKind.ofCode kind.code = some kind := by cases kind <;> rfl

/-- A kind value that names a request is that request's. -/
theorem code_of_ofCode {n : Nat} {kind : ReqKind} (h : ReqKind.ofCode n = some kind) : kind.code = n := by
  by_cases hn : n < 30
  · interval_cases n <;> simp only [ReqKind.ofCode, Option.some.injEq] at h <;> subst h <;> rfl
  · obtain ⟨m, rfl⟩ : ∃ m, n = m + 30 := ⟨n - 30, by omega⟩
    simp [ReqKind.ofCode] at h

/-- The kind values of requests are 0 to 29. -/
theorem code_lt (kind : ReqKind) : kind.code < 30 := by cases kind <;> decide

/-- A kind value above 29 names no request. -/
theorem ofCode_none {n : Nat} (h : 29 < n) : ReqKind.ofCode n = none := by
  rcases ho : ReqKind.ofCode n with _ | kind
  · rfl
  · have := code_of_ofCode ho; have := code_lt kind; omega

/-! ### The request of a row -/

/-- A request row takes its request. -/
theorem exec_eq_takeRequest {c : Instr} {kind : ReqKind} {l : Link} {tag : Byte} {body : List Byte}
    (h : c.request? = some (kind, l, tag, body)) (s : State) : exec c s = .next (takeRequest kind l tag body s) := by
  cases c <;> simp only [Instr.request?, Option.some.injEq, Prod.mk.injEq, reduceCtorEq] at h <;>
    obtain ⟨rfl, rfl, rfl, rfl⟩ := h <;> rfl

/-- Every request has its row. -/
theorem exists_row (kind : ReqKind) (l : Link) (tag : Byte) (body : List Byte) :
    ∃ c : Instr, c.request? = some (kind, l, tag, body) := by
  cases kind
  · exact ⟨.fetch l tag body, rfl⟩
  · exact ⟨.readPolicy l tag body, rfl⟩
  · exact ⟨.setPolicy l tag body, rfl⟩
  · exact ⟨.setBarMask l tag body, rfl⟩
  · exact ⟨.restartScheduling l tag body, rfl⟩
  · exact ⟨.setTiming l tag body, rfl⟩
  · exact ⟨.readTiming l tag body, rfl⟩
  · exact ⟨.admitSubscriber l tag body, rfl⟩
  · exact ⟨.setTerms l tag body, rfl⟩
  · exact ⟨.suspend l tag body, rfl⟩
  · exact ⟨.resume l tag body, rfl⟩
  · exact ⟨.remove l tag body, rfl⟩
  · exact ⟨.readSubscriber l tag body, rfl⟩
  · exact ⟨.bindSector l tag body, rfl⟩
  · exact ⟨.releaseSector l tag body, rfl⟩
  · exact ⟨.pinSector l tag body, rfl⟩
  · exact ⟨.attach l tag body, rfl⟩
  · exact ⟨.detach l tag body, rfl⟩
  · exact ⟨.readSectors l tag body, rfl⟩
  · exact ⟨.demandBatch l tag body, rfl⟩
  · exact ⟨.readGrants l tag body, rfl⟩
  · exact ⟨.readPlanSummary l tag body, rfl⟩
  · exact ⟨.move l tag body, rfl⟩
  · exact ⟨.readNotice l tag body, rfl⟩
  · exact ⟨.claim l tag body, rfl⟩
  · exact ⟨.cancelMove l tag body, rfl⟩
  · exact ⟨.setLinkRights l tag body, rfl⟩
  · exact ⟨.readAttention l tag body, rfl⟩
  · exact ⟨.setAttentionMask l tag body, rfl⟩
  · exact ⟨.readLinkStatus l tag body, rfl⟩

/-! ### Bodies that are lists (R166) -/

/-- The items of a SET POLICY body are read back. -/
@[simp] theorem policyTriples_policyBody (items : List (Byte × Byte × Byte)) :
    policyTriples (policyBody items) = some items := by
  induction items with
  | nil => rfl
  | cons it rest ih =>
    have : policyBody (it :: rest) = it.1 :: it.2.1 :: it.2.2 :: policyBody rest := rfl
    rw [this, policyTriples, ih]; rfl

/-- A body whose length is no multiple of 3 is no list of items. -/
theorem policyTriples_none {body : List Byte} (h : body.length % 3 ≠ 0) : policyTriples body = none := by
  fun_induction policyTriples body with
  | case1 => simp at h
  | case2 i lo hi rest ih =>
    rw [ih (by simp only [List.length_cons] at h; omega)]; rfl
  | case3 => rfl

/-- The bytes of a two-byte value give it back. -/
theorem field16_bytes {n : Nat} (h : n < 65536) : field16 (BitVec.ofNat 8 n) (BitVec.ofNat 8 (n / 256)) = n := by
  simp only [field16, BitVec.toNat_ofNat]; omega

/-- The entries of a DEMAND BATCH body are read back. -/
theorem reportEntries_entryBytes {entries : List ReportEntry} (h : ∀ r ∈ entries, entryFits r) :
    reportEntries (entries.flatMap entryBytes) = some entries := by
  induction entries with
  | nil => rfl
  | cons r rest ih =>
    have hr := h r (by simp)
    have ih := ih fun q hq => h q (by simp [hq])
    obtain ⟨h1, h2, h3, h4, h5⟩ := hr
    rw [List.flatMap_cons, entryBytes]
    simp only [List.cons_append, List.nil_append, reportEntries, ih, Option.map_some, field16_bytes h2,
      field16_bytes h3, field16_bytes h5, BitVec.toNat_ofNat]
    rw [Nat.mod_eq_of_lt h1, Nat.mod_eq_of_lt h4]

/-- A body whose length is no multiple of 8 is no list of entries. -/
theorem length_of_reportEntries {body : List Byte} {entries : List ReportEntry} (h : reportEntries body = some entries) :
    body.length = 8 * entries.length := by
  fun_induction reportEntries body generalizing entries with
  | case1 => cases h; rfl
  | case2 a0 a1 a2 a3 a4 a5 a6 a7 rest ih =>
    rcases hr : reportEntries rest with _ | es
    · rw [hr] at h; cases h
    · rw [hr] at h; cases h
      simp only [List.length_cons, ih hr]; omega
  | case3 => cases h

/-- A body of whole entries is a list of entries. -/
theorem reportEntries_isSome {body : List Byte} {n : Nat} (h : body.length = 8 * n) :
    ∃ entries, reportEntries body = some entries ∧ entries.length = n := by
  induction n generalizing body with
  | zero =>
    have hb : body = [] := List.eq_nil_of_length_eq_zero (by omega)
    exact ⟨[], by rw [hb]; rfl, rfl⟩
  | succ n ih =>
    rcases body with _ | ⟨a0, _ | ⟨a1, _ | ⟨a2, _ | ⟨a3, _ | ⟨a4, _ | ⟨a5, _ | ⟨a6, _ | ⟨a7, rest⟩⟩⟩⟩⟩⟩⟩⟩ <;>
      simp only [List.length_cons, List.length_nil] at h <;> try omega
    obtain ⟨entries, he, hl⟩ := ih (body := rest) (by omega)
    exact ⟨_ :: entries, by rw [reportEntries, he]; rfl, by simp [hl]⟩

end Sys2Proof.Machine
end

