-- ==== Sys2Proof/Laws/PerInstr.lean ====
section
/-! SUPPORT. The family Telegram: what holds of the telegram of each well-formed row. -/

namespace Sys2Proof.Laws

open Sys2Proof.Machine

/-- The telegram of a well-formed request row has 4 to 64 bytes, its kind byte names the row's request, its length byte
is the body's length, and its bytes sum to 0 modulo 256 (R152, R166). -/
def Telegram.Statement (i : Instr) : Prop :=
  i.wf = true → ∀ kind l tag body, i.request? = some (kind, l, tag, body) →
    ∃ sum : Byte, i.telegram? =
        some (BitVec.ofNat 8 kind.code :: tag :: BitVec.ofNat 8 body.length :: (body ++ [sum])) ∧
      body.length ≤ 60 ∧ (BitVec.ofNat 8 body.length : Byte).toNat = body.length ∧
      ReqKind.ofCode (BitVec.ofNat 8 kind.code : Byte).toNat = some kind ∧
      byteSum (requestTelegram kind tag body) = 0

/-- The law for every row at once. -/
theorem telegram_of_row (i : Instr) : Telegram.Statement i := by
  intro hwf kind l tag body h
  have hb : body.length ≤ 60 := by
    simp only [Instr.wf, h] at hwf
    exact of_decide_eq_true hwf
  refine ⟨_, by rw [Instr.telegram?, h]; rfl, hb, ?_, ?_, byteSum_requestTelegram kind tag body⟩
  · rw [BitVec.toNat_ofNat]; omega
  · have := code_lt kind
    rw [BitVec.toNat_ofNat, Nat.mod_eq_of_lt (by omega), ofCode_code]

theorem Telegram.powerOnReset : Telegram.Statement .powerOnReset := telegram_of_row _

theorem Telegram.selectAssert (link : Link) (bits : List Bool) :
    Telegram.Statement (.selectAssert link bits) := telegram_of_row _

theorem Telegram.selectRelease (link : Link) (bits : List Bool) :
    Telegram.Statement (.selectRelease link bits) := telegram_of_row _

theorem Telegram.holdTimeout (link : Link) (bits : List Bool) :
    Telegram.Statement (.holdTimeout link bits) := telegram_of_row _

theorem Telegram.powerLowLineChange (asserted : Bool) :
    Telegram.Statement (.powerLowLineChange asserted) := telegram_of_row _

theorem Telegram.referenceClockEdge (pulseLine : Bool) :
    Telegram.Statement (.referenceClockEdge pulseLine) := telegram_of_row _

theorem Telegram.pulse : Telegram.Statement .pulse := telegram_of_row _

theorem Telegram.missedExpiry : Telegram.Statement .missedExpiry := telegram_of_row _

theorem Telegram.frameStart : Telegram.Statement .frameStart := telegram_of_row _

theorem Telegram.moveExpiry (record : RecIdx) :
    Telegram.Statement (.moveExpiry record) := telegram_of_row _

theorem Telegram.slotBoundary : Telegram.Statement .slotBoundary := telegram_of_row _

theorem Telegram.buildCompletion : Telegram.Statement .buildCompletion := telegram_of_row _

theorem Telegram.fetch (link : Link) (tag : Byte) (body : List Byte) :
    Telegram.Statement (.fetch link tag body) := telegram_of_row _

theorem Telegram.setPolicy (link : Link) (tag : Byte) (body : List Byte) :
    Telegram.Statement (.setPolicy link tag body) := telegram_of_row _

theorem Telegram.readPolicy (link : Link) (tag : Byte) (body : List Byte) :
    Telegram.Statement (.readPolicy link tag body) := telegram_of_row _

theorem Telegram.setBarMask (link : Link) (tag : Byte) (body : List Byte) :
    Telegram.Statement (.setBarMask link tag body) := telegram_of_row _

theorem Telegram.restartScheduling (link : Link) (tag : Byte) (body : List Byte) :
    Telegram.Statement (.restartScheduling link tag body) := telegram_of_row _

theorem Telegram.setTiming (link : Link) (tag : Byte) (body : List Byte) :
    Telegram.Statement (.setTiming link tag body) := telegram_of_row _

theorem Telegram.readTiming (link : Link) (tag : Byte) (body : List Byte) :
    Telegram.Statement (.readTiming link tag body) := telegram_of_row _

theorem Telegram.admitSubscriber (link : Link) (tag : Byte) (body : List Byte) :
    Telegram.Statement (.admitSubscriber link tag body) := telegram_of_row _

theorem Telegram.setTerms (link : Link) (tag : Byte) (body : List Byte) :
    Telegram.Statement (.setTerms link tag body) := telegram_of_row _

theorem Telegram.suspend (link : Link) (tag : Byte) (body : List Byte) :
    Telegram.Statement (.suspend link tag body) := telegram_of_row _

theorem Telegram.resume (link : Link) (tag : Byte) (body : List Byte) :
    Telegram.Statement (.resume link tag body) := telegram_of_row _

theorem Telegram.remove (link : Link) (tag : Byte) (body : List Byte) :
    Telegram.Statement (.remove link tag body) := telegram_of_row _

theorem Telegram.readSubscriber (link : Link) (tag : Byte) (body : List Byte) :
    Telegram.Statement (.readSubscriber link tag body) := telegram_of_row _

theorem Telegram.bindSector (link : Link) (tag : Byte) (body : List Byte) :
    Telegram.Statement (.bindSector link tag body) := telegram_of_row _

theorem Telegram.releaseSector (link : Link) (tag : Byte) (body : List Byte) :
    Telegram.Statement (.releaseSector link tag body) := telegram_of_row _

theorem Telegram.pinSector (link : Link) (tag : Byte) (body : List Byte) :
    Telegram.Statement (.pinSector link tag body) := telegram_of_row _

theorem Telegram.attach (link : Link) (tag : Byte) (body : List Byte) :
    Telegram.Statement (.attach link tag body) := telegram_of_row _

theorem Telegram.detach (link : Link) (tag : Byte) (body : List Byte) :
    Telegram.Statement (.detach link tag body) := telegram_of_row _

theorem Telegram.readSectors (link : Link) (tag : Byte) (body : List Byte) :
    Telegram.Statement (.readSectors link tag body) := telegram_of_row _

theorem Telegram.demandBatch (link : Link) (tag : Byte) (body : List Byte) :
    Telegram.Statement (.demandBatch link tag body) := telegram_of_row _

theorem Telegram.readGrants (link : Link) (tag : Byte) (body : List Byte) :
    Telegram.Statement (.readGrants link tag body) := telegram_of_row _

theorem Telegram.readPlanSummary (link : Link) (tag : Byte) (body : List Byte) :
    Telegram.Statement (.readPlanSummary link tag body) := telegram_of_row _

theorem Telegram.move (link : Link) (tag : Byte) (body : List Byte) :
    Telegram.Statement (.move link tag body) := telegram_of_row _

theorem Telegram.readNotice (link : Link) (tag : Byte) (body : List Byte) :
    Telegram.Statement (.readNotice link tag body) := telegram_of_row _

theorem Telegram.claim (link : Link) (tag : Byte) (body : List Byte) :
    Telegram.Statement (.claim link tag body) := telegram_of_row _

theorem Telegram.cancelMove (link : Link) (tag : Byte) (body : List Byte) :
    Telegram.Statement (.cancelMove link tag body) := telegram_of_row _

theorem Telegram.setLinkRights (link : Link) (tag : Byte) (body : List Byte) :
    Telegram.Statement (.setLinkRights link tag body) := telegram_of_row _

theorem Telegram.readAttention (link : Link) (tag : Byte) (body : List Byte) :
    Telegram.Statement (.readAttention link tag body) := telegram_of_row _

theorem Telegram.setAttentionMask (link : Link) (tag : Byte) (body : List Byte) :
    Telegram.Statement (.setAttentionMask link tag body) := telegram_of_row _

theorem Telegram.readLinkStatus (link : Link) (tag : Byte) (body : List Byte) :
    Telegram.Statement (.readLinkStatus link tag body) := telegram_of_row _

end Sys2Proof.Laws
end

