-- ==== Sys2Proof/Laws/Timing.lean ====
section
/-! SUPPORT. Frame timing: what a slot-boundary event, an edge, a frame start and a quiet stretch do, each said once. -/

namespace Sys2Proof.Machine

open Sys2Proof.Safety

/-! ### Slot boundaries (R20) -/

/-- The slots due with no bound are the slots ahead. -/
theorem slotsDue_none (f : Ftu) : slotsDue f.inForce.p f.count none = slotsAhead f := by
  simp only [slotsDue, slotsAhead, slotCount, Bool.and_true]
  rfl

/-- A slot is due when its boundary lies above the count and at or below the bound. -/
theorem mem_slotsDue_some {p after upTo k : Nat} :
    k ∈ slotsDue p after (some upTo) ↔ (1 ≤ k ∧ k ≤ 15) ∧ after < slotCount p k ∧ slotCount p k ≤ upTo := by
  simp only [slotsDue, List.mem_filter, List.mem_range'_1, Bool.and_eq_true, decide_eq_true_eq]
  constructor
  · rintro ⟨h, h'⟩; exact ⟨by omega, h'⟩
  · rintro ⟨h, h'⟩; exact ⟨by omega, h'⟩

/-- With a period of at least 16 the slots begin at different counts, in rising order. -/
theorem slotCount_strictMono {p : Nat} (hp : 16 ≤ p) {j k : Nat} (h : j < k) : slotCount p j < slotCount p k := by
  unfold slotCount
  have h1 : (j + 1) * p ≤ k * p := Nat.mul_le_mul_right p h
  have h2 : j * p + 16 ≤ (j + 1) * p := by rw [Nat.add_mul]; omega
  omega

/-- The boundaries of slots 1 to 15 lie below the period. -/
theorem slotCount_lt {p k : Nat} (hp : 0 < p) (hk : k ≤ 15) : slotCount p k < p := by
  unfold slotCount
  have : k * p ≤ 15 * p := Nat.mul_le_mul_right p hk
  omega

/-- With a period of at least 16 at most one slot is due at an edge. -/
theorem slotsDue_next {p after k : Nat} (hp : 16 ≤ p) (hk : 1 ≤ k ∧ k ≤ 15) (h : slotCount p k = after + 1) :
    slotsDue p after (some (after + 1)) = [k] := by
  have hmem : k ∈ slotsDue p after (some (after + 1)) := mem_slotsDue_some.2 ⟨hk, by omega, by omega⟩
  have hall : ∀ j ∈ slotsDue p after (some (after + 1)), j = k := by
    intro j hj
    obtain ⟨_, h1, h2⟩ := mem_slotsDue_some.1 hj
    rcases Nat.lt_trichotomy j k with hlt | heq | hgt
    · have := slotCount_strictMono hp hlt; omega
    · exact heq
    · have := slotCount_strictMono hp hgt; omega
  have hnd : (slotsDue p after (some (after + 1))).Nodup := (List.nodup_range').filter _
  rcases hl : slotsDue p after (some (after + 1)) with _ | ⟨a, _ | ⟨b, rest⟩⟩
  · rw [hl] at hmem; cases hmem
  · rw [hl] at hall; rw [hall a (by simp)]
  · rw [hl] at hall hnd
    have ha := hall a (by simp); have hb := hall b (by simp)
    rw [ha, hb] at hnd; simp at hnd

/-- An edge at which no slot begins has none due. -/
theorem slotsDue_none_at {p after : Nat} (h : ∀ k, 1 ≤ k → k ≤ 15 → slotCount p k ≠ after + 1) :
    slotsDue p after (some (after + 1)) = [] := by
  rw [List.eq_nil_iff_forall_not_mem]
  intro k hk
  obtain ⟨⟨h1, h2⟩, h3, h4⟩ := mem_slotsDue_some.1 hk
  exact h k h1 h2 (by omega)

/-- Everything a slot-boundary event can do: the Link Ports count it, slot O opens the window, and slot W closes it and
starts a build (R20, R72, R85, R155). -/
theorem slotEvent_cases (s : State) (k : Nat) :
    let u := s.mapPorts fun _ p => p.countSlot
    (k = s.policy.window.o ∧ s.slotEvent k = { u with windowOpen := true }) ∨
    (k ≠ s.policy.window.o ∧ k = s.policy.window.w ∧ s.slotEvent k = { u with windowOpen := false }.startBuild) ∨
    (k ≠ s.policy.window.o ∧ k ≠ s.policy.window.w ∧ s.slotEvent k = u) := by
  intro u
  unfold State.slotEvent
  by_cases ho : k = s.policy.window.o
  · exact .inl ⟨ho, if_pos ho⟩
  · by_cases hw : k = s.policy.window.w
    · exact .inr (.inl ⟨ho, hw, (if_neg ho).trans (if_pos hw)⟩)
    · exact .inr (.inr ⟨ho, hw, (if_neg ho).trans (if_neg hw)⟩)

/-! ### Edges (R19 to R27) -/

/-- An edge without a pulse, whatever the level. -/
theorem edge_noPulse {s : State} {level : Bool} (h : NoPulse s level) :
    s.edge level =
      let t : State := { s.ageBuild with ftu := s.ftu.measure level false }
      match s.ftu.state with
      | .locked => t.edgeLocked false
      | .free => t.edgeFree false
      | .holdover => t.edgeFree false := by
  have : (level && !s.ftu.sampled) = false := by rcases h with rfl | h <;> simp_all
  unfold State.edge
  simp only [ageBuild_ftu, this]
  rfl

/-- An edge with a pulse. -/
theorem edge_pulse {s : State} (h : s.ftu.sampled = false) :
    s.edge true =
      let t : State := { s.ageBuild with ftu := pulseMeasured s.ftu }
      match s.ftu.state with
      | .locked => t.edgeLocked true
      | .free => t.edgeFree true
      | .holdover => t.edgeFree true := by
  unfold State.edge
  simp only [ageBuild_ftu, h]
  rfl

/-- A build that has edges left is one edge older. -/
theorem ageBuild_eq {s : State} (h : BuildHasTime s) : s.ageBuild = { s with builder := aged s } := by
  unfold State.ageBuild aged
  rcases hb : s.builder with _ | b
  · cases s; simp_all
  · have : b.age < buildLimit := h b hb
    simp [Nat.not_le.2 this]

/-- An edge that starts no frame leaves the FTU counting alone. -/
@[simp] theorem advance_ftu (s : State) : s.advance.ftu = { s.ftu with count := s.ftu.count + 1 } := by
  simp [State.advance]

/-- A frame start's effect on the FTU. -/
@[simp] theorem startFrame_ftu (s : State) : s.startFrame.ftu = s.ftu.startFrame := by
  simp [State.startFrame]

/-- A frame start's effect on the policy (R14). -/
@[simp] theorem startFrame_policy (s : State) : s.startFrame.policy = s.policy.applyWindow := by
  simp [State.startFrame]

/-- The FTU at a frame start that is not the first after reset. -/
theorem ftu_startFrame_eq {f : Ftu} (h : f.fresh = false) : f.startFrame = frameStarted f := by
  cases f; simp_all [Ftu.startFrame, frameStarted, Ftu.nextFrame]

/-- Relock raises TIMING on every link. -/
@[simp] theorem relock_port (s : State) (l : Link) :
    s.relock.port l = { s.port l with causes := { (s.port l).causes with timing := true } } := by
  simp only [State.relock, State.raiseTiming, port_mapPorts]; rfl

/-- The missed expiry raises TIMING on every link. -/
@[simp] theorem expire_port (s : State) (l : Link) :
    s.expire.port l = { s.port l with causes := { (s.port l).causes with timing := true } } := by
  simp only [State.expire, State.raiseTiming, port_mapPorts]; rfl

/-! ### Quiet runs -/

/-- No quiet edges change nothing. -/
@[simp] theorem quietRun_zero (s : State) : quietRun 0 s = s := rfl

/-- A quiet run begins with one quiet edge. -/
theorem quietRun_succ (n : Nat) (s : State) : quietRun (n + 1) s = quietRun n (s.edge false) := rfl

/-- Quiet runs one after the other are a quiet run. -/
theorem quietRun_add (m n : Nat) (s : State) : quietRun (m + n) s = quietRun n (quietRun m s) := by
  unfold quietRun; rw [Nat.add_comm, Function.iterate_add_apply]

end Sys2Proof.Machine
end

