-- ==== Sys2Proof/Tests/Slice0.lean ====
section
/-! SUPPORT. Tests of the model against the manual's worked examples and rules (each names its source), the
well-formedness smoke test, and one witness for each statement that has hypotheses. -/

namespace Sys2Proof.Tests

open Sys2Proof Sys2Proof.Machine Sys2Proof.Safety

-- One theorem after the other: each kernel evaluation would otherwise hold a thread of its own.
set_option Elab.async false

/-! ### Small states -/

/-- The state after a command. -/
def run (c : Instr) (s : State) : State :=
  match exec c s with
  | .next t => t
  | .fault _ => s
  | .refused _ => s

/-- The response a command leaves on a link. -/
def resp (c : Instr) (l : Link) (s : State) : Option Response := ((run c s).port l).buffer

/-- A record in use, class 6 and TA 200 (the subscriber of section 7.8). -/
def occ (id : Nat) (a : Attachment) : Occupant :=
  { suspended := false, id := id, terms := { weight := 2, resDL := 0, resUL := 0, cap := 8 }, attachment := a
    demandDL := 100, demandUL := 50, cls := 6, ta := 200, creditDL := 3, creditUL := 2, age := 1, lapse := none }

def rec0 : Occupant := occ 101 (.active .s0 3)
def rec1 : Occupant := { occ 102 (.active .s0 4) with suspended := true }
def rec2 : Occupant := occ 103 .unbound
def rec3 : Occupant := { occ 104 (.active .s0 12) with lapse := some .s1 }
def rec5 : Occupant := occ 105 (.moving .s0 9 .s1 3)
def rec6 : Occupant := occ 106 (.moving .s0 10 .s1 1)
def rec15 : Occupant := occ 115 (.active .s1 30)

/-- A grant of record 0 in sector 0's list. -/
def grant0 : Grant :=
  { index := 0, generation := 4, handle := 3, dir := .ul, tiles := [73, 76, 78, 80, 81, 82, 83, 84, 85, 86], nR := 0
    nS := 2, nL := 8, bytes := 480, trimmed := false, void := false }

/-- A plan with sectors 0 and 1 in it. -/
def plan0 : Plan :=
  { d := 12, g := 4, mh := 0, budget := 216, used := 0
    sectors :=
      { s0 := some { grants := [grant0, { grant0 with index := 5, handle := 9, tiles := [72], nS := 0, nL := 1 }]
                     dl := { tiles := 0, served := 0, unmet := 0, blocked := 0 }
                     ul := { tiles := 11, served := 2, unmet := 0, blocked := 0 } }
        s1 := some { grants := []
                     dl := { tiles := 0, served := 0, unmet := 0, blocked := 0 }
                     ul := { tiles := 0, served := 0, unmet := 0, blocked := 0 } }
        s2 := none } }

/-- A site in frame 700: sector 0 PRESENT on L0 with records 0, 1, 5, 3, 6 in its ring, record 5 MOVING to sector 1 with
its notice queued, sector 1 PRESENT on L1 with record 15, sector 2 SILENT on L2, record 2 ADMITTED, the window open. -/
def site : State :=
  let s : State := { State.reset with
    ftu := { Ftu.reset with fresh := false, frame := 700, count := 30000 }
    sectors :=
      { s0 := { state := .present .l0, missed := 0, batchSeen := false
                map := [⟨3, 0, 4⟩, ⟨4, 1, 4⟩, ⟨9, 5, 4⟩, ⟨10, 6, 4⟩, ⟨12, 3, 4⟩]
                ring := [0, 1, 5, 3, 6], dlHead := some 1, ulHead := some 6 }
        s1 := { state := .present .l1, missed := 2, batchSeen := false, map := [⟨30, 15, 4⟩], ring := [15]
                dlHead := some 15, ulHead := some 15 }
        s2 := { state := .silent .l2, missed := 3, batchSeen := false, map := [], ring := []
                dlHead := none, ulHead := none } }
    windowOpen := true
    queues :=
      { s0 := []
        s1 := [{ id := 105, index := 5, generation := 4, source := .s0, ta := 200, cls := 6
                 terms := { weight := 2, resDL := 0, resUL := 0, cap := 8 }, frames := 3 }]
        s2 := [] }
    live := { frame := 700, plan := .built plan0 }
    ports := { State.reset.ports with l1 := { Port.reset with causes := { noCauses with handover := true } } } }
  ((((((s.setRecord 0 ⟨4, some rec0⟩).setRecord 1 ⟨4, some rec1⟩).setRecord 2 ⟨4, some rec2⟩).setRecord 3
    ⟨4, some rec3⟩).setRecord 5 ⟨4, some rec5⟩).setRecord 6 ⟨4, some rec6⟩).setRecord 15 ⟨4, some rec15⟩

/-- The site with its FTU's values changed. -/
def clocked (state : TimingState) (count : Nat) (f : Ftu → Ftu) : State :=
  { site with ftu := f { site.ftu with state := state, count := count } }

/-- The site with a select period in progress on L0 that has clocked these bytes in. -/
def selecting (bytes : List Byte) : State :=
  site.setPort .l0 { (site.port .l0).start 2 with bitsIn := bitsOfBytes bytes }

/-! ### Well-formedness -/

/-- R152: a body of 61 bytes is not one a telegram can carry; one of 60 is. -/
theorem test_wf_body : (Instr.fetch .l0 0 (List.replicate 61 0)).wf = false ∧
    (Instr.fetch .l0 0 (List.replicate 60 0)).wf = true := by decide

/-- The rows that are no requests have no field that can be ill formed. -/
theorem test_wf_event : Instr.pulse.wf = true ∧ (Instr.selectAssert .l0 []).wf = true := by decide

/-! ### Telegrams -/

/-- Section 11.4: READ TIMING with tag 9 is the bytes 6, 9, 0, 241. -/
theorem test_telegram_readTiming : (Instr.readTiming .l0 9 []).telegram? = some [6, 9, 0, 241] := by decide

/-- Section 11.4: the entry of grant A, 14 bytes, with byte 3 0x31, counts 0x10 0x10 and the three slot pairs. -/
theorem test_grantEntry : grantEntry grant0 = [0, 4, 3, 0x31, 0x10, 0x10, 0xE0, 0x01, 12, 0x12, 13, 0x3D, 14, 0x07] := by
  decide

/-! ### Resets and lines -/

/-- R165: a select line found asserted at power-on reset starts a select period; R18: N is 3. -/
theorem test_powerOnReset : ((run .powerOnReset (selecting [])).port .l0).selected = true ∧
    (run .powerOnReset { site with policy := { site.policy with n := 2 } }).policy.n = 3 := by decide +kernel

/-- Section 10.8, period 1: a port with an empty buffer clocks out the EMPTY response, status 3, then its checksum 253. -/
theorem test_selectAssert : ((run (.selectAssert .l2 (List.replicate 40 false)) State.reset).port .l2).bitsOut =
    bitsOfBytes [3, 0, 0, 0, 253] := by decide +kernel

/-- Section 10.8, period 3: three bytes and two bits are a FRAMING error with kind and tag echo; the count is 1. -/
theorem test_selectRelease : resp (.selectRelease .l0 [true, false]) .l0 (selecting [18, 3, 0]) =
      some { status := .framing, tag := 3, kind := 18, body := [] } ∧
    ((run (.selectRelease .l0 [true, false]) (selecting [18, 3, 0])).port .l0).errors.framing = 1 := by decide +kernel

/-- Section 10.8, period 2: BIND SECTOR 2, tag 2, is taken at the release. -/
theorem test_selectRelease_request :
    resp (.selectRelease .l3 (bitsOfBytes [13, 2, 1, 2, 238])) .l3 (run (.selectAssert .l3 []) State.reset) =
      some { status := .ok, tag := 2, kind := 13, body := [2, 2] } := by decide +kernel

/-- R155: with a hold limit of 2 the third slot boundary times the period out. -/
theorem test_holdTimeout : ((run (.holdTimeout .l0 []) (selecting [])).port .l0).timedOut = true ∧
    (run (.holdTimeout .l0 []) (selecting [])).ftu.count = 60000 := by decide +kernel

/-- R7: a build start samples the power-low line: Bl is 96. -/
theorem test_powerLowLineChange :
    ((run (.powerLowLineChange true) site).startBuild.builder.map fun b => b.snapshot.budget) = some 96 := by
  decide +kernel

/-! ### Frame timing -/

/-- R20: slot 12 of a frame of 192,000 begins at 144,000; at slot W the window closes and a build starts. -/
theorem test_referenceClockEdge :
    let t := run (.referenceClockEdge false) (clocked .free 143999 id)
    t.ftu.count = 144000 ∧ t.windowOpen = false ∧ t.builder.isSome = true := by decide +kernel

/-- Section 2.8: the fourth good pulse, at c = 191,936 of frame 1064, relocks and starts frame 1065. -/
theorem test_pulse_relock :
    let t := run .pulse (clocked .holdover 191935 fun f => { f with frame := 1064, h := 64, goodRun := 3 })
    t.ftu.state = .locked ∧ t.ftu.frame = 1065 ∧ t.ftu.h = 0 ∧ t.ftu.goodRun = 0 := by decide +kernel

/-- Section 2.8: a pulse at c = 96,000 in HOLDOVER is stray; the interval is 96,064. -/
theorem test_pulse_stray :
    let t := run .pulse (clocked .holdover 95999 fun f =>
      { f with frame := 1061, h := 61, goodRun := 1, running := 96063, pulseSeen := true })
    t.ftu.stray = 1 ∧ t.ftu.goodRun = 0 ∧ t.ftu.interval = 96064 ∧ t.ftu.frame = 1061 := by decide +kernel

/-- Section 2.8: the missed expiry of frame 1000. -/
theorem test_missedExpiry :
    let t := run .missedExpiry (clocked .locked 0 fun f => { f with frame := 1000 })
    t.ftu.state = .holdover ∧ t.ftu.frame = 1001 ∧ t.ftu.h = 1 ∧ t.ftu.missed = 1 := by decide +kernel

/-- Section 2.8: frame 1032 starts in HOLDOVER with H 32 and a margin of 1. -/
theorem test_frameStart :
    let t := run .frameStart (clocked .holdover 0 fun f => { f with frame := 1031, h := 31 })
    t.ftu.frame = 1032 ∧ t.ftu.h = 32 ∧ t.ftu.margin = 1 := by decide +kernel

/-- R147, section 9.9: a move left alone expires, and the lapse mark names the target. -/
theorem test_moveExpiry :
    ((run (.moveExpiry 6) (clocked .free 150000 id)).occupant 6).map (fun o => (o.attachment, o.lapse)) =
      some (.active .s0 10, some .s1) := by decide +kernel

/-- R20: from count 30,000 the next slot boundary is slot 3, at 36,000. -/
theorem test_slotBoundary : (run .slotBoundary site).ftu.count = 36000 := by decide +kernel

/-! ### The worked build of section 6.15 -/

/-- A record entry of section 6.15: class 7, TA 0, so that need is demand / 60. -/
def entry615 (i : RecIdx) (need weight credit res : Nat) : Entry :=
  { index := i, generation := 1, home := .s0, handle := i.val + 1
    terms := { weight := weight, resDL := 0, resUL := res, cap := 32 }, cls := 7, ta := 0, outer := false
    creditDL := 0, creditUL := credit, demandDL := 0, demandUL := 60 * need }

/-- The snapshot of section 6.15. -/
def snap615 : Snapshot :=
  { frame := 701, d := 12, g := 4, umin := 8, z := 160, alim := 50, n := 3
    adjacency := { p01 := true, p12 := true, p02 := true }, budget := 216, mh := 0
    sectors := [{ id := .s0
                  ring := [⟨0, 1, some (entry615 0 10 2 0 0)⟩, ⟨1, 1, some (entry615 1 3 4 2 1)⟩,
                    ⟨2, 1, some (entry615 2 2 1 0 0)⟩]
                  dlHead := some 0, ulHead := some 0, mask := 3#96 }] }

/-- The site with that build in flight. -/
def building : State := { site with builder := some { snapshot := snap615, work := Work.start snap615, age := 0 } }

/-- Section 6.15: the grants are started B, A, C, with these tiles; the summary is 15 tiles, 3 served, none unmet. -/
theorem test_buildCompletion :
    ((run .buildCompletion building).next.bind fun n => n.plan.sectors.s0).map
      (fun sp => (sp.grants.map (fun g => (g.index, g.tiles)), sp.ul)) =
      some ([((1 : RecIdx), [72, 74, 77]), (0, [73, 76, 78, 80, 81, 82, 83, 84, 85, 86]), (2, [75, 79])],
        { tiles := 15, served := 3, unmet := 0, blocked := 0 }) := by decide +kernel

/-- Section 6.15: the working credits are A 0, B 4, C 0, and the working UL head is C. -/
theorem test_build_credits :
    let w := runBuild snap615 (Work.start snap615)
    w.ul.records.map WorkRecord.credit = [0, 4, 0] ∧ w.ul.heads.s0 = some { index := 2, generation := 1 } := by
  decide +kernel

/-- Section 7.8: usable counts and bytes of an edge tile, class 6, TA 200. -/
theorem test_edge :
    let e : Entry := { entry615 0 1 1 0 0 with cls := 6, ta := 200 }
    [0, 2, 4, 8].map (fun mh => usableOf { snap615 with mh := mh } e) = [11, 9, 7, 3] ∧
      [0, 2].map (fun mh => tileBytes { snap615 with mh := mh } e 90) = [26, 21] := by decide

/-! ### Requests of the policy and the timing -/

/-- Section 1.10: the five items, answered OK_CLAMPED with 12, 72, (1, 13), 1023 and 8. -/
theorem test_setPolicy :
    let c : Instr := .setPolicy .l3 7 [2, 14, 0, 9, 72, 0, 3, 1, 13, 6, 208, 7, 2, 8, 0]
    resp c .l3 site = some { status := .okClamped, tag := 7, kind := 2, body := [12, 0, 72, 0, 1, 13, 255, 3, 8, 0] } ∧
      (run c site).policy.d = 8 := by decide +kernel

/-- R16: part 1 of the reset policy has tiles 0 and 1 of each sector barred. -/
theorem test_readPolicy : resp (.readPolicy .l3 1 [1]) .l3 site =
    some { status := .ok, tag := 1, kind := 1
           body := [3, 0, 0, 0, 0, 0, 0, 0, 0, 0, 0, 0, 3, 0, 0, 0, 0, 0, 0, 0, 0, 0, 0, 0, 3, 0, 0, 0, 0, 0, 0, 0, 0, 0,
             0, 0] } := by decide +kernel

/-- R15, R166: tile 12 is bit 4 of byte 1. -/
theorem test_setBarMask :
    ((run (.setBarMask .l3 0 [1, 0, 16, 0, 0, 0, 0, 0, 0, 0, 0, 0, 0]) site).policy.masks.get .s1).getLsbD 12 = true := by
  decide +kernel

/-- R17: a restart frees the records and keeps their generations. -/
theorem test_restartScheduling :
    (run (.restartScheduling .l3 0 []) site).record 5 = { generation := 4, occupant := none } ∧
      ((run (.restartScheduling .l3 0 []) site).sector .s0).state = .silent .l0 := by decide +kernel

/-- R31: P 100 is clamped to 16,384; the set is pending. -/
theorem test_setTiming : resp (.setTiming .l3 2 [100, 0, 0, 64, 0, 4]) .l3 site =
      some { status := .okClamped, tag := 2, kind := 5, body := [0, 64, 0, 64, 0, 4] } ∧
    (run (.setTiming .l3 2 [100, 0, 0, 64, 0, 4]) site).ftu.inForce.p = 192000 := by decide +kernel

/-- R32, section 10.9: READ TIMING clears TIMING on its own link alone. -/
theorem test_readTiming :
    let t := run (.readTiming .l1 0 []) site.raiseTiming
    (t.port .l1).causes.timing = false ∧ (t.port .l0).causes.timing = true := by decide +kernel

/-! ### Requests of the subscriber records -/

/-- Section 3.11: the first ADMIT after reset takes record 0, generation 1. -/
theorem test_admit : resp (.admitSubscriber .l3 0 [213, 17, 1, 3, 1, 0, 8]) .l3 State.reset =
    some { status := .ok, tag := 0, kind := 7, body := [0, 1, 3, 1, 0, 8] } := by decide +kernel

/-- Section 3.11: w 20, res DL 6 and cap 40 are clamped to 15, 4 and 32; the lowest FREE record is taken. -/
theorem test_admit_clamped : resp (.admitSubscriber .l3 0 [214, 17, 1, 20, 6, 0, 40]) .l3 site =
    some { status := .okClamped, tag := 0, kind := 7, body := [4, 1, 15, 4, 0, 32] } := by decide +kernel

/-- R46: a weight of 1 holds the credit down to 4; a credit below it stays. -/
theorem test_setTerms :
    ((run (.setTerms .l3 0 [101, 0, 0, 1, 0, 0, 8]) (site.setOccupant 0 (some { rec0 with creditDL := 7 }))).occupant
      0).map (fun o => (o.creditDL, o.creditUL)) = some (4, 2) := by decide +kernel

/-- R48: SUSPEND marks the record's grants void and no other record's. -/
theorem test_suspend :
    ((run (.suspend .l3 0 [101, 0, 0]) site).live.view.plan.bind fun p => p.sectors.s0).map
      (fun sp => sp.grants.map Grant.void) = some [true, false] := by decide +kernel

/-- R49: RESUME clears the flag. -/
theorem test_resume : ((run (.resume .l3 0 [102, 0, 0]) site).occupant 1).map Occupant.suspended = some false := by
  decide +kernel

/-- Section 3.11: REMOVE of an ACTIVE record answers index, generation and was ACTIVE, and frees the record. -/
theorem test_remove : resp (.remove .l3 0 [101, 0, 0]) .l3 site =
      some { status := .ok, tag := 0, kind := 11, body := [0, 4, 2] } ∧
    ((run (.remove .l3 0 [101, 0, 0]) site).sector .s0).ring = [1, 5, 3, 6] := by decide +kernel

/-- R43, R52: an id that no record holds is refused NO_SUBSCRIBER. -/
theorem test_readSubscriber : resp (.readSubscriber .l3 0 [1, 0, 0]) .l3 site =
    some { status := .noSubscriber, tag := 0, kind := 12, body := [] } := by decide +kernel

/-! ### Requests of the sectors -/

/-- Section 4.8: BIND SECTOR 1 on L1 after reset: SILENT, missed 3. -/
theorem test_bindSector : resp (.bindSector .l1 0 [1]) .l1 State.reset =
      some { status := .ok, tag := 0, kind := 13, body := [1, 2] } ∧
    ((run (.bindSector .l1 0 [1]) State.reset).sector .s1).missed = 3 := by decide +kernel

/-- Section 4.8: a sector held by L1 answers SECTOR_TAKEN with its holder. -/
theorem test_bindSector_taken : resp (.bindSector .l3 0 [1]) .l3 site =
    some { status := .sectorTaken, tag := 0, kind := 13, body := [1, 1, 3] } := by decide +kernel

/-- R58, R59: RELEASE SECTOR of sector 1 cancels both moves to it. -/
theorem test_releaseSector : resp (.releaseSector .l1 0 []) .l1 site =
      some { status := .ok, tag := 0, kind := 14, body := [1, 2] } ∧
    ((run (.releaseSector .l1 0 []) site).occupant 5).map Occupant.attachment = some (.active .s0 9) := by decide +kernel

/-- Section 4.8: PIN SECTOR 1 to L0 releases L1's binding. -/
theorem test_pinSector : resp (.pinSector .l3 0 [1, 0]) .l3 site =
      some { status := .ok, tag := 0, kind := 15, body := [1, 0, 1] } ∧
    ((run (.pinSector .l3 0 [1, 0]) site).sector .s1).state = .unbound := by decide +kernel

/-- R63, R67: the first record to join an empty ring takes both heads. -/
theorem test_attach :
    let v := (run (.attach .l2 0 [103, 0, 0, 7]) site).sector .s2
    v.ring = [2] ∧ v.dlHead = some 2 ∧ v.ulHead = some 2 ∧ v.map = [⟨7, 2, 4⟩] := by decide +kernel

/-- Section 4.9: the record under the DL head leaves; the head moves to its successor and the UL head stays. -/
theorem test_detach :
    let v := (run (.detach .l0 0 [4]) site).sector .s0
    v.ring = [0, 5, 3, 6] ∧ v.dlHead = some 5 ∧ v.ulHead = some 6 := by decide +kernel

/-- R69: sector 2 is SILENT on L2, unpinned, missed 3, its ring empty. -/
theorem test_readSectors : (resp (.readSectors .l3 0 []) .l3 site).map (fun r => r.body.drop 16) =
    some [2, 2, 255, 3, 0, 0, 0, 0] := by decide +kernel

/-- Section 5.9: the batch of five entries is PARTIAL: accepted 3, rejected 2, clamped 2, first rejected 1. -/
theorem test_demandBatch :
    let c : Instr := .demandBatch .l0 0
      [5, 3, 176, 4, 0, 0, 6, 200, 0, 13, 244, 1, 244, 1, 4, 50, 0, 4, 0, 0, 44, 1, 9, 80, 0,
        9, 90, 0, 90, 0, 3, 132, 3, 0, 10, 0, 10, 0, 2, 0, 0]
    resp c .l0 site = some { status := .part, tag := 0, kind := 19, body := [3, 2, 2, 1] } ∧
      ((run c site).occupant 5).map (fun o => (o.demandDL, o.cls, o.ta, o.age)) = some (90, 3, 640, 0) := by
  decide +kernel

/-- Section 5.8: with M 3 a count of 2 becomes 3 and the sector is SILENT; moves to it are cancelled. -/
theorem test_presence :
    (site.presence.sector .s1).state = .silent .l1 ∧ (site.presence.sector .s1).missed = 3 ∧
      (site.presence.occupant 5).map Occupant.attachment = some (.active .s0 9) := by decide +kernel

/-! ### Requests of the plans -/

/-- R131, R168: both entries of sector 0 fit: flag, total 2, entries 2, next index 2. -/
theorem test_readGrants : (resp (.readGrants .l0 0 [188, 2, 0]) .l0 site).map (fun r => r.body.take 6) =
    some [188, 2, 9, 2, 2, 2] := by decide +kernel

/-- R130: a frame that is neither LIVE, NEXT nor in flight is STALE; one in flight is NOT_YET. -/
theorem test_readGrants_frames :
    resp (.readGrants .l0 0 [189, 2, 0]) .l0 building = some { status := .notYet, tag := 0, kind := 20, body := [] } ∧
    resp (.readGrants .l0 0 [187, 2, 0]) .l0 building = some { status := .stale, tag := 0, kind := 20, body := [] } := by
  decide +kernel

/-- R132, R167: D 12, G 4, Mh 0, budget 216, used 0, and the set of sectors 0 and 1. -/
theorem test_readPlanSummary : (resp (.readPlanSummary .l3 0 [188, 2]) .l3 site).map (fun r => r.body.take 9) =
    some [188, 2, 1, 12, 4, 0, 216, 0, 3] := by decide +kernel

/-! ### Requests of the moves -/

/-- Section 9.9: a MOVE answers the index, generation, target, frames and the notices queued; HANDOVER is pending. -/
theorem test_move : resp (.move .l0 0 [3, 1]) .l0 site =
      some { status := .ok, tag := 0, kind := 22, body := [0, 4, 1, 8, 2] } ∧
    ((run (.move .l0 0 [3, 1]) site).port .l1).causes.handover = true := by decide +kernel

/-- R138: a suspended record is not moved. -/
theorem test_move_suspended : resp (.move .l0 0 [4, 1]) .l0 site =
    some { status := .suspended, tag := 0, kind := 22, body := [] } := by decide +kernel

/-- Section 9.9: READ NOTICE hands out the notice, none left, and clears HANDOVER. -/
theorem test_readNotice : resp (.readNotice .l1 0 []) .l1 site =
      some { status := .ok, tag := 0, kind := 23, body := [105, 0, 0, 5, 4, 0, 200, 0, 6, 2, 0, 0, 8, 3, 0] } ∧
    ((run (.readNotice .l1 0 []) site).port .l1).causes.handover = false := by decide +kernel

/-- Section 9.9: a CLAIM moves the record to sector 1 under its new handle and keeps its credit. -/
theorem test_claim : resp (.claim .l1 0 [105, 0, 0, 31]) .l1 site =
      some { status := .ok, tag := 0, kind := 24, body := [5, 4, 0] } ∧
    ((run (.claim .l1 0 [105, 0, 0, 31]) site).occupant 5).map (fun o => (o.attachment, o.creditUL)) =
      some (.active .s1 31, 2) := by decide +kernel

/-- Section 9.9: a handle in use is refused with its holder; a lapsed move TOO_LATE with home and handle. -/
theorem test_claim_refused :
    resp (.claim .l1 0 [105, 0, 0, 30]) .l1 site = some { status := .handleInUse, tag := 0, kind := 24, body := [15] } ∧
    resp (.claim .l1 0 [104, 0, 0, 31]) .l1 site =
      some { status := .tooLate, tag := 0, kind := 24, body := [3, 4, 0, 12] } := by decide +kernel

/-- R146: CANCEL MOVE withdraws the queued notice and says so. -/
theorem test_cancelMove : resp (.cancelMove .l0 0 [9]) .l0 site =
      some { status := .ok, tag := 0, kind := 25, body := [5, 4, 1, 1] } ∧
    (run (.cancelMove .l0 0 [9]) site).queue .s1 = [] := by decide +kernel

/-! ### Requests of the links -/

/-- R158: FETCH leaves the buffer empty. -/
theorem test_fetch : resp (.fetch .l0 4 [1, 2]) .l0 (site.putResponse .l0 emptyResponse) = none := by decide +kernel

/-- R160: taking SECTOR from L1 releases sector 1. -/
theorem test_setLinkRights : resp (.setLinkRights .l3 0 [1, 253]) .l3 site =
      some { status := .ok, tag := 0, kind := 26, body := [1, 5, 1] } ∧
    ((run (.setLinkRights .l3 0 [1, 253]) site).sector .s1).state = .unbound := by decide +kernel

/-- R160: the last POLICY holder keeps its right. -/
theorem test_setLinkRights_lastPolicy :
    let r : Rights := { policy := false, sector := true, read := true }
    resp (.setLinkRights .l3 0 [3, 6]) .l3 { site with policy := { site.policy with
      rights := { site.policy.rights with l0 := r, l1 := r, l2 := r } } } =
      some { status := .lastPolicy, tag := 0, kind := 26, body := [] } := by decide +kernel

/-- R162, section 10.9: HANDOVER is the top cause of L1, which is bound to sector 1. -/
theorem test_readAttention : resp (.readAttention .l1 0 []) .l1 site =
    some { status := .ok, tag := 0, kind := 27, body := [2, 4, 31, 0, 0, 1] } := by decide +kernel

/-- R161, R163: a masked cause stays pending and releases the line. -/
theorem test_setAttentionMask : (run (.setAttentionMask .l1 0 [27]) site).attentionLine .l1 = false ∧
    ((run (.setAttentionMask .l1 0 [27]) site).port .l1).causes.handover = true ∧ site.attentionLine .l1 = true := by
  decide +kernel

/-- Section 10.8, period 5: READ LINK STATUS shows the framing count 1 and clears it. -/
theorem test_readLinkStatus :
    let s := run (.selectRelease .l0 [true, false]) (selecting [18, 3, 0])
    resp (.readLinkStatus .l0 5 []) .l0 s =
      some { status := .ok, tag := 5, kind := 29, body := [0, 7, 0, 2, 1, 0, 0, 0, 0] } ∧
    ((run (.readLinkStatus .l0 5 []) s).port .l0).errors.framing = 0 := by decide +kernel

/-! ### The site obeys the laws: what the witnesses rest on -/

/-- The records in use at the site. -/
def occupants : List (RecIdx × Occupant) :=
  [(0, rec0), (1, rec1), (2, rec2), (3, rec3), (5, rec5), (6, rec6), (15, rec15)]

theorem site_occupants : ∀ i, ∀ o ∈ site.occupant i, (i, o) ∈ occupants := by decide +kernel

theorem site_occupant : ∀ p ∈ occupants, site.occupant p.1 = some p.2 := by decide +kernel

theorem occupants_ids : ∀ p ∈ occupants, ∀ q ∈ occupants, q.2.id = p.2.id → q.1 = p.1 := by decide +kernel
theorem site_bound0 : BoundTo site .l0 .s0 := ⟨rfl, by intro j; cases j <;> decide +kernel⟩

theorem site_bound1 : BoundTo site .l1 .s1 := ⟨rfl, by intro j; cases j <;> decide +kernel⟩

theorem site_bound2 : BoundTo site .l2 .s2 := ⟨rfl, by intro j; cases j <;> decide +kernel⟩

theorem site_unbound3 : Unbound site .l3 := by intro k; cases k <;> decide +kernel

theorem site_holds : ∀ p ∈ occupants, Holds site p.1 p.2 := by
  intro p hp
  refine ⟨site_occupant p hp, fun j hj q hq he => ?_⟩
  exact hj (occupants_ids p hp (j, q) (site_occupants j q hq) he)

theorem site_idUnused : IdUnused site 1 := by
  intro j q hq he
  have : ∀ p ∈ occupants, p.2.id ≠ 1 := by decide +kernel
  exact this (j, q) (site_occupants j q hq) he

theorem site_policy : PolicyInRange site ∧ SomePolicyHolder site :=
  ⟨by unfold PolicyInRange windowOk; decide +kernel, .l3, rfl⟩

theorem site_timing : TimingInRange site := by unfold TimingInRange timingOk; decide +kernel

theorem site_window : WindowFollowsSlots site :=
  ⟨site_timing, by unfold windowOk; decide +kernel, by unfold windowOk; decide +kernel, by decide +kernel⟩

theorem site_frames : PlanFramesAgree site := by unfold PlanFramesAgree; decide +kernel

theorem site_ids : IdsUnique site := by
  constructor
  · intro i o h
    have : ∀ p ∈ occupants, p.2.id ≠ 0 := by decide +kernel
    exact this (i, o) (site_occupants i o h)
  · intro i j oi oj hi hj he
    exact occupants_ids (j, oj) (site_occupants j oj hj) (i, oi) (site_occupants i oi hi) he

theorem site_credits : CreditsBounded site := by
  intro i o h
  have : ∀ p ∈ occupants, p.2.creditDL ≤ 4 * p.2.terms.weight ∧ p.2.creditUL ≤ 4 * p.2.terms.weight := by
    decide +kernel
  exact this (i, o) (site_occupants i o h)

theorem site_records : RecordsInRange site := by
  refine ⟨by decide +kernel, by decide +kernel, by decide +kernel, fun i o h => ?_⟩
  have : ∀ p ∈ occupants, (1 ≤ p.2.id ∧ p.2.id ≤ 16777215) ∧ termsOk p.2.terms ∧ p.2.demandDL ≤ 65535 ∧
      p.2.demandUL ≤ 65535 ∧ p.2.cls ≤ 7 ∧ p.2.ta ≤ 1023 ∧ p.2.age ≤ 255 ∧
      (∀ m ∈ p.2.attachment.move?, 1 ≤ m.2 ∧ m.2 ≤ 63) := by
    unfold termsOk; decide +kernel
  exact this (i, o) (site_occupants i o h)

theorem site_sectors : SectorsFollowN site := by intro k; cases k <;> decide +kernel

theorem site_bindings : BindingsUnique site := by
  intro j k l
  cases j <;> cases k <;> cases l <;> decide +kernel

theorem site_maps : MapsAndRingsAgree site := by
  refine ⟨site_sectors, by intro k; cases k <;> decide +kernel, fun k => ⟨?_, ?_, ?_⟩, fun k => ⟨?_, ?_, ?_⟩⟩
  · have : ∀ j ∈ allSectors, ∀ e ∈ (site.sector j).map, ∃ p ∈ occupants, p.1 = e.index ∧
        p.2.attachment.place? = some (j, e.handle) ∧ (site.record e.index).generation = e.generation ∧
        1 ≤ e.handle ∧ e.handle ≤ 127 := by decide +kernel
    intro e he
    obtain ⟨p, hp, hi, h⟩ := this k (by cases k <;> decide) e he
    exact ⟨p.2, hi ▸ site_occupant p hp, h⟩
  · have : ∀ p ∈ occupants, ∀ q ∈ p.2.attachment.place?, ∃ e ∈ (site.sector q.1).map, e.index = p.1 ∧
        e.handle = q.2 := by decide +kernel
    intro i o h ho hp
    exact this (i, o) (site_occupants i o ho) (k, h) hp
  · cases k <;> decide +kernel
  · cases k <;> decide +kernel
  · cases k <;> decide +kernel
  · intro dir; cases k <;> cases dir <;> decide +kernel

theorem site_notices : NoticesAgree site := by
  refine ⟨site_sectors, fun t => ⟨by cases t <;> decide +kernel, ?_, by cases t <;> decide +kernel,
    by cases t <;> decide +kernel⟩⟩
  have : ∀ j ∈ allSectors, ∀ n ∈ site.queue j, n.index = 5 ∧ j = .s1 ∧ n.source = .s0 ∧ n.frames = 3 ∧ n.id = 105 ∧
      n.generation = 4 := by decide +kernel
  intro n hn
  obtain ⟨h1, rfl, h2, h3, h4, h5⟩ := this t (by cases t <;> decide) n hn
  exact ⟨rec5, 9, by rw [h1]; exact site_occupant (5, rec5) (by decide), by rw [h2, h3]; rfl, h4.symm,
    by rw [h1, h5]; decide +kernel⟩

theorem site_handover : HandoverFollowsQueues site := by
  refine ⟨site_sectors, site_bindings, by intro t; cases t <;> decide +kernel, fun l => ?_⟩
  have : ∀ m ∈ allLinks, (site.port m).causes.handover = true ↔
      ∃ k ∈ allSectors, (site.sector k).state.link? = some m ∧ site.queue k ≠ [] := by decide +kernel
  rw [this l (by cases l <;> decide)]
  constructor
  · rintro ⟨k, -, h⟩; exact ⟨k, h⟩
  · rintro ⟨k, h⟩; exact ⟨k, by cases k <;> decide, h⟩

/-! ### Witnesses: the machine and the timing -/

/-- A state with one command waiting, and what a step makes of it. -/
theorem witness_StepRunsFrontCommand :
    ({ site with pending := [.pulse, .frameStart] } : State).pending = .pulse :: [.frameStart] := rfl

/-- Each case of what cannot come: an idle queue, FREE, a record that is not MOVING, no build, a released and an asserted
select line. -/
theorem witness_ChoicesForWhatCannotCome :
    site.pending = [] ∧ site.ftu.state ≠ .locked ∧ (∀ o ∈ site.occupant 0, o.attachment.move? = none) ∧
    site.builder = none ∧ (site.port .l0).selected = false ∧ ((selecting []).port .l0).selected = true := by
  decide +kernel

/-- A select line found asserted at power-on reset, and one found released. -/
theorem witness_PowerOnResetValues :
    ((selecting [1]).port .l0).selected = true ∧ ((selecting [1]).port .l1).selected = false := by decide +kernel

/-- A build in flight at its last edge but one, and LOCKED one edge before P + T. -/
theorem witness_QuietEdgeCounts :
    let s := { clocked .locked 192062 id with builder := some { snapshot := snap615, work := Work.start snap615, age := 4095 } }
    NoPulse s false ∧ NoPulse { s with ftu := { s.ftu with sampled := true } } true ∧ FrameGoesOn s ∧ BuildHasTime s ∧
    FrameGoesOn (clocked .free 191998 id) ∧ ∀ k, 1 ≤ k → k ≤ 15 → k * s.ftu.inForce.p / 16 ≠ s.ftu.count + 1 := by
  refine ⟨.inl rfl, .inr rfl, ?_, ?_, ?_, ?_⟩
  · unfold FrameGoesOn; decide +kernel
  · unfold BuildHasTime; decide +kernel
  · unfold FrameGoesOn; decide +kernel
  · have : ∀ k ∈ List.range 16, 1 ≤ k → k * 192000 / 16 ≠ 192063 := by decide +kernel
    intro k h1 h2
    exact this k (List.mem_range.2 (by omega)) h1

/-- Slots 2 (O), 12 (W), 1 and 15 begin at the next edge. -/
theorem witness_SlotBoundaryEvents :
    let s := clocked .free 23999 id
    NoPulse s false ∧ BuildHasTime s ∧ 16 ≤ s.ftu.inForce.p ∧
    FrameGoesOn s ∧ 2 * s.ftu.inForce.p / 16 = s.ftu.count + 1 ∧ 2 = s.policy.window.o ∧
    FrameGoesOn (clocked .free 143999 id) ∧ 12 * 192000 / 16 = 143999 + 1 ∧ 12 ≠ s.policy.window.o ∧
    12 = s.policy.window.w ∧
    FrameGoesOn (clocked .locked 179999 id) ∧ 15 * 192000 / 16 = 179999 + 1 ∧ 15 ≠ s.policy.window.w := by
  unfold NoPulse FrameGoesOn BuildHasTime; decide +kernel

/-- A pulse one edge below P − T, and one at P − T. -/
theorem witness_LockedPulseGlitchOrAccepted :
    let s := clocked .locked 191934 id
    let a := clocked .locked 191935 id
    (s.ftu.state = .locked ∧ s.ftu.fresh = false ∧ s.ftu.sampled = false ∧
      s.ftu.count + 1 + s.ftu.inForce.t < s.ftu.inForce.p) ∧
    (∃ u, exec (.referenceClockEdge false) s = .next u) ∧
    (a.ftu.state = .locked ∧ a.ftu.fresh = false ∧ a.ftu.sampled = false ∧
      a.ftu.inForce.p ≤ a.ftu.count + 1 + a.ftu.inForce.t) ∧ BuildHasTime a :=
  ⟨by decide +kernel, ⟨_, rfl⟩, by decide +kernel, by unfold BuildHasTime; decide +kernel⟩

/-- A stray pulse at T + 1, good ones at T and P − T, the relocking ones there, one at T that meets slot W, and one at the
frame's end. -/
theorem witness_FreePulseStrayGoodOrRelock :
    let at_ : Nat → Nat → Ftu := fun c g => (clocked .holdover c fun f => { f with goodRun := g }).ftu
    (at_ 64 0).state ≠ .locked ∧ (at_ 64 0).fresh = false ∧ (at_ 64 0).sampled = false ∧
    (64 < (at_ 64 0).count + 1 ∧ (at_ 64 0).count + 1 + 64 < 192000) ∧
    ((at_ 63 2).count + 1 ≤ 64 ∧ (at_ 63 2).goodRun + 1 < 4) ∧
    (192000 ≤ (at_ 191935 2).count + 1 + 64 ∧ (at_ 191935 2).count + 1 < 192000 ∧ (at_ 191935 2).goodRun + 1 < 4) ∧
    ((at_ 63 3).count + 1 ≤ 64 ∧ (at_ 63 3).count + 1 + 64 < 192000 ∧ 4 ≤ (at_ 63 3).goodRun + 1) ∧
    ((at_ 191935 3).count + 1 < 192000 ∧ 192000 ≤ (at_ 191935 3).count + 1 + 64 ∧ 4 ≤ (at_ 191935 3).goodRun + 1) ∧
    (192000 ≤ (at_ 191999 2).count + 1 ∧ (at_ 191999 2).goodRun + 1 < 4 ∧ 4 ≤ (at_ 191999 3).goodRun + 1) ∧
    (at_ 64 0).inForce = { p := 192000, t := 64, k := 4 } ∧
    BuildHasTime (clocked .holdover 191935 fun f => { f with goodRun := 3 }) ∧
    (State.reset.ftu.fresh = true ∧ State.reset.ftu.sampled = false ∧ State.reset.ftu.state ≠ .locked ∧
      State.reset.ftu.goodRun + 1 < State.reset.ftu.inForce.k ∧ BuildHasTime State.reset) ∧
    (let f := (clocked .free 1023 fun f => { f with goodRun := 3, inForce := { p := 16384, t := 4095, k := 4 } }).ftu
     f.count + 1 ≤ f.inForce.t ∧ f.count + 1 + f.inForce.t < f.inForce.p ∧ f.inForce.k ≤ f.goodRun + 1 ∧
      1 * f.inForce.p / 16 = f.count + 1 ∧ ({ o := 0, w := 1 } : Window).w ≠ ({ o := 0, w := 1 } : Window).o) ∧
    12 * 192000 / 16 ≠ (at_ 63 3).count + 1 := by
  unfold BuildHasTime; decide +kernel

/-- LOCKED at the first and at the last count of a frame, whose next edge reaches P + T. -/
theorem witness_MissedExpiryEntersHoldover :
    let last := clocked .locked 192063 id
    TimingInRange (clocked .locked 0 id) ∧ TimingInRange last ∧ last.ftu.state = .locked ∧ NoPulse last false ∧
    BuildHasTime last ∧ last.ftu.inForce.p + last.ftu.inForce.t ≤ last.ftu.count + 1 := by
  refine ⟨?_, ?_, rfl, .inl rfl, ?_, by decide +kernel⟩
  · unfold TimingInRange timingOk; decide +kernel
  · unfold TimingInRange timingOk; decide +kernel
  · unfold BuildHasTime; decide +kernel

/-- FREE one edge before P, HOLDOVER, and the part before its first edge. -/
theorem witness_FrameStartsOnOwnCount :
    TimingInRange (clocked .free 191999 id) ∧ TimingInRange (clocked .holdover 0 fun f => { f with h := 4095 }) ∧
    (clocked .free 191999 id).ftu.fresh = false ∧ TimingInRange State.reset ∧ State.reset.ftu.fresh = true ∧
    State.reset.ftu.state ≠ .locked ∧ NoPulse (clocked .free 191999 id) false ∧
    BuildHasTime (clocked .free 191999 id) ∧ BuildHasTime State.reset ∧
    (clocked .free 191999 id).ftu.inForce.p ≤ (clocked .free 191999 id).ftu.count + 1 := by
  refine ⟨?_, ?_, rfl, ?_, rfl, by decide, .inl rfl, ?_, ?_, by decide +kernel⟩
  · unfold TimingInRange timingOk; decide +kernel
  · unfold TimingInRange timingOk; decide +kernel
  · unfold TimingInRange timingOk; decide +kernel
  · unfold BuildHasTime; decide +kernel
  · unfold BuildHasTime; decide +kernel

/-- A frame with slots ahead, one with none, the part before its first edge, and the frame's last count but one and its
last. -/
theorem witness_TimingRowsAreQuietEdges :
    TimingInRange site ∧ site.ftu.fresh = false ∧
    slotsAhead site.ftu = 3 :: [4, 5, 6, 7, 8, 9, 10, 11, 12, 13, 14, 15] ∧
    TimingInRange (clocked .locked 192063 id) ∧ slotsAhead (clocked .locked 192063 id).ftu = [] ∧
    (clocked .locked 192063 id).ftu.state = .locked ∧ State.reset.ftu.fresh = true ∧
    FrameGoesOn (clocked .free 191998 id) ∧ ¬FrameGoesOn (clocked .free 191999 id) := by
  refine ⟨site_timing, rfl, by decide +kernel, ?_, by decide +kernel, rfl, rfl, ?_, ?_⟩
  · unfold TimingInRange timingOk; decide +kernel
  · unfold FrameGoesOn; decide +kernel
  · unfold FrameGoesOn; decide +kernel

/-- Moves with one frame left and with three, a record that is not MOVING, and a pending pair. -/
theorem witness_MovesCountDownAtFrameStart :
    (∀ v ∈ site.policy.pendingWindow, 1 ≤ v.w) ∧ 1 ≤ site.policy.window.w ∧
    site.occupant 6 = some rec6 ∧ rec6.attachment = .moving .s0 10 .s1 1 ∧
    site.occupant 5 = some rec5 ∧ rec5.attachment = .moving .s0 9 .s1 3 ∧ 1 < 3 ∧
    site.occupant 0 = some rec0 ∧ rec0.attachment.move? = none := by decide +kernel

/-- The two moves of the site, one notice queued and one read. -/
theorem witness_MoveExpiryReturnsTheRecord :
    TimingInRange site ∧ PolicyInRange site ∧ site.occupant 5 = some rec5 ∧
    rec5.attachment = .moving .s0 9 .s1 3 ∧ site.occupant 6 = some rec6 ∧ rec6.attachment = .moving .s0 10 .s1 1 :=
  ⟨site_timing, site_policy.1, by decide +kernel, rfl, by decide +kernel, rfl⟩

/-- A NEXT of the coming frame, of another frame, and none; an EMPTY LIVE and a BUILT one; L0 bound to a PRESENT sector
and L3 to none; a grant that stands and one that does not. -/
theorem witness_PlanSwitchesOrRepeats :
    (∀ v ∈ site.policy.pendingWindow, 1 ≤ v.w) ∧ 1 ≤ site.policy.window.w ∧
    ({ site with next := some { frame := 701, plan := plan0 } } : State).next = some { frame := 701, plan := plan0 } ∧
    (∀ n ∈ site.next, n.frame ≠ (site.ftu.frame + 1) % 4096) ∧
    (∀ n ∈ ({ site with next := some { frame := 702, plan := plan0 } } : State).next, n.frame ≠ 701) ∧
    State.reset.live.plan = .empty false ∧ site.live.plan = .built plan0 ∧
    (site.sector .s0).state = .present .l0 ∧ (∀ k, (site.sector k).state ≠ .present .l3) ∧
    GrantStands site .s0 grant0 ∧ ¬GrantStands site .s1 grant0 := by
  refine ⟨by decide +kernel, by decide +kernel, rfl, by decide +kernel, by decide +kernel, rfl, rfl, rfl, ?_, ?_, ?_⟩
  · intro k; cases k <;> decide +kernel
  · exact ⟨⟨by decide +kernel, rec0, by decide +kernel, rfl⟩, rec0, by decide +kernel, rfl⟩
  · rintro ⟨⟨-, o, ho, hp⟩, -⟩
    have h0 : site.occupant 0 = some rec0 := by decide +kernel
    have : o = rec0 := by
      have ho' : site.occupant 0 = some o := ho
      rw [h0] at ho'; exact (Option.some.inj ho').symm
    rw [this] at hp
    exact absurd hp (by decide)

/-! ### Witnesses: the build -/

/-- The evaluation silences sector 1 and keeps sector 0, and L0 holds no silenced sector; an unbound sector; a part in which
no sector changes its state. -/
theorem witness_PresenceEvaluation :
    (site.sector .s1).state.isPresent = true ∧ (site.presence.sector .s1).state.isPresent = false ∧
    (site.presence.sector .s0).state.isPresent = true ∧ (State.reset.sector .s0).state.link? = none ∧
    (site.sector .s1).state.link? = some .l1 ∧ (∀ j, (site.sector j).state.link? = some .l1 → j = .s1) ∧
    site.occupant 5 = some rec5 ∧ rec5.attachment = .moving .s0 9 .s1 3 ∧ site.occupant 0 = some rec0 ∧
    (∀ k, (State.reset.presence.sector k).state = (State.reset.sector k).state) ∧
    ∀ k, (site.sector k).state.isPresent = true ∧ (site.presence.sector k).state.isPresent = false →
      (site.sector k).state.link? ≠ some .l0 := by
  refine ⟨rfl, by decide +kernel, by decide +kernel, rfl, rfl, site_bound1.2, by decide +kernel, rfl, by decide +kernel,
    ?_, ?_⟩
  · intro k; cases k <;> decide +kernel
  · intro k; cases k <;> decide +kernel

/-- N at both ends of its range; the three timing states; a sector and a ring in the snapshot. -/
theorem witness_SnapshotTakenAtBuildStart :
    (1 ≤ site.policy.n ∧ site.policy.n ≤ 3) ∧ ({ site.policy with n := 1 } : Policy).n = 1 ∧
    site.ftu.state = .free ∧ (clocked .locked 0 id).ftu.state = .locked ∧
    (clocked .holdover 0 id).ftu.state = .holdover ∧
    (site.startBuild.builder.map fun b => b.snapshot.sectors.map SnapSector.id) = some [.s0] := by decide +kernel

/-- A record that takes part, a suspended one, and a record of no ring. -/
theorem witness_RecordEntriesAndAges :
    (site.startBuild.builder.map fun b => b.snapshot.sectors.map fun v => v.ring.map fun r => r.entry.isSome) =
      some [[true, false, true, true, true]] ∧
    (site.presence.sector .s0).state.isPresent = true ∧ (5 : RecIdx) ∈ (site.sector .s0).ring ∧
    (site.presence.occupant 5).isSome = true ∧ (site.presence.occupant 2).isSome = true ∧
    (∀ k, (2 : RecIdx) ∉ (site.sector k).ring) := by
  refine ⟨by decide +kernel, by decide +kernel, by decide +kernel, by decide +kernel, by decide +kernel, ?_⟩
  intro k; cases k <;> decide +kernel

/-- The bounds of TA and Mh, and tiles on both sides of 90. -/
theorem witness_EdgeArithmetic :
    let e : Entry := { entry615 0 1 1 0 0 with ta := 1023 }
    e.ta ≤ 1023 ∧ ({ snap615 with mh := 8 } : Snapshot).mh ≤ 8 ∧ 89 < 90 ∧ 90 ≤ 90 := by decide

/-- The worked build of section 6.15 makes 15 assignments. -/
theorem witness_PlacementLawsHold : (runBuild snap615 (Work.start snap615)).occupancy.length = 15 := by decide +kernel

/-- The entries of the worked build of section 6.15. -/
theorem witness_BudgetLawHolds :
    (snap615.entries.map Entry.index).Nodup ∧ entry615 1 3 4 2 1 ∈ snap615.entries ∧
    (((Work.start snap615).at .ul).records.map WorkRecord.index) = snap615.entries.map Entry.index := by decide +kernel

/-- An entry without class, one without demand, one with both; the entries of section 6.15. -/
theorem witness_GrantsWithinNeedHold :
    ({ entry615 0 1 1 0 0 with cls := 0 } : Entry).cls = 0 ∧ (entry615 0 1 1 0 0).demand .dl = 0 ∧
    (entry615 0 1 1 0 0).cls ≠ 0 ∧ (entry615 0 1 1 0 0).demand .ul ≠ 0 ∧
    (snap615.entries.map Entry.index).Nodup := by decide +kernel

/-- The snapshot of section 6.15 is one that a build start takes. -/
theorem snap615_ok : SnapshotOk snap615 := by
  refine ⟨by decide, by decide, by decide, fun v hv => ?_⟩
  rw [List.mem_singleton.1 hv]
  exact ⟨by decide, by intro dir; cases dir <;> decide +kernel⟩

theorem witness_PassesFollowTheRules : SnapshotOk snap615 := snap615_ok

/-- The snapshot of section 6.15, its sector, and one that is not in it; a grant of three tiles. -/
theorem witness_PlanHoldsWhatTheBuildPlaced :
    SnapshotOk snap615 ∧ (∃ v ∈ snap615.sectors, v.id = .s0) ∧ (∀ v ∈ snap615.sectors, v.id ≠ .s1) ∧
    ((runBuild snap615 (Work.start snap615)).ul.grants.map fun g => (g.entry.index, g.tiles)).head? =
      some (1, [72, 74, 77]) :=
  ⟨snap615_ok, by decide, by decide, by decide +kernel⟩

/-- The build the site starts; then record 3 has changed its generation; records with and without an entry, heads fixed
and not, links bound to PRESENT sectors and not. -/
theorem witness_BuildCompletionCommits :
    let s := site.startBuild.setRecord 3 ⟨5, some rec3⟩
    ∃ b e e', s.builder = some b ∧ s.occupant 0 = some { rec0 with age := 2 } ∧ s.occupant 4 = none ∧
      b.snapshot.entries.find? (fun e => decide (e.index = 0)) = some e ∧ Matches s e.home 0 e.generation e.handle ∧
      s.occupant 3 = some rec3 ∧
      b.snapshot.entries.find? (fun e => decide (e.index = 3)) = some e' ∧
      ¬Matches s e'.home 3 e'.generation e'.handle ∧ s.occupant 2 = some rec2 ∧
      (∀ e ∈ b.snapshot.entries, e.index ≠ 2) ∧
      ((runBuild b.snapshot b.work).ul.heads.get .s0).isSome = true ∧
      (runBuild b.snapshot b.work).ul.heads.get .s2 = none ∧
      (s.sector .s0).state = .present .l0 ∧ (∀ k, (s.sector k).state ≠ .present .l3) ∧
      ∃ old, ({ building with builder := some old } : State).builder = some old ∧ 4096 ≤ old.age := by
  have hb : (site.startBuild.setRecord 3 ⟨5, some rec3⟩).builder = some ⟨snapshotOf site.presence,
    Work.start (snapshotOf site.presence), 0⟩ := rfl
  refine ⟨_, entryOf site.policy .s0 0 4 rec0, entryOf site.policy .s0 3 4 rec3, hb, by decide +kernel, by decide +kernel,
    by decide +kernel, ⟨by decide +kernel, { rec0 with age := 2 }, by decide +kernel, by decide +kernel⟩,
    by decide +kernel, by decide +kernel, fun h => absurd h.1 (by decide +kernel), by decide +kernel, by decide +kernel,
    by decide +kernel, by decide +kernel, by decide +kernel, ?_, ⟨snap615, Work.start snap615, 4096⟩, rfl,
    Nat.le_refl 4096⟩
  intro k; cases k <;> decide +kernel

/-! ### Witnesses: select periods, rights and frames -/

/-- A released select line, with fewer than eight bits and with eight. -/
theorem witness_SelectAssertStartsPeriod :
    (site.port .l0).selected = false ∧ ¬8 ≤ (List.replicate 7 true).length ∧ 8 ≤ (List.replicate 8 true).length := by
  decide +kernel

/-- The telegram of section 11.4 with one byte of fill, half of it clocked before the release. -/
theorem witness_GoodTelegramIsTaken :
    let c : Instr := .readTiming .l0 9 []
    let s := selecting [6, 9]
    c.request? = some (.readTiming, .l0, 9, []) ∧ c.wf = true ∧ (s.port .l0).selected = true ∧
    (s.port .l0).timedOut = false ∧
    (s.port .l0).bitsIn ++ bitsOfBytes [0, 241, 0] = bitsOfBytes (requestTelegram .readTiming 9 [] ++ [0]) := by
  decide +kernel

/-- A period for each line of R154's table. -/
theorem witness_ReleaseFollowsTheLines :
    let p : List Byte → List Bool → Port := fun bytes bits => ((selecting bytes).port .l0).shift bits
    ((selecting []).port .l0).selected = true ∧
    (({ (selecting []).port .l0 with timedOut := true } : Port).shift []).timedOut = true ∧
    (p [] [true]).timedOut = false ∧ completeBytes (p [] [true]).bitsIn = [] ∧
    (completeBytes (p [1] [true]).bitsIn ≠ [] ∧ (p [1] [true]).bitsIn.length % 8 ≠ 0) ∧
    ((completeBytes (p [1, 2] []).bitsIn).length < 3 ∧ (p [1, 2] []).bitsIn.length % 8 = 0) ∧
    (completeBytes (p [1, 2, 61] []).bitsIn = 1 :: 2 :: 61 :: [] ∧ 60 < (61 : Byte).toNat) ∧
    (completeBytes (p [1, 2, 60] []).bitsIn = 1 :: 2 :: 60 :: [] ∧ (60 : Byte).toNat ≤ 60 ∧ 3 < 4 + (60 : Byte).toNat) ∧
    (4 + (0 : Byte).toNat ≤ ([1, 2, 0, 0] : List Byte).length ∧ byteSum [1, 2, 0, 0] ≠ 0) ∧
    (byteSum [30, 0, 0, 226] = 0 ∧ 29 < (30 : Byte).toNat) ∧
    (byteSum [29, 0, 0, 227] = 0 ∧ (29 : Byte).toNat ≤ 29) := by decide +kernel

/-- A period of L0 with a hold limit of 2, and one that has timed out. -/
theorem witness_HoldTimeoutEndsThePeriod :
    TimingInRange (selecting []) ∧ ((selecting []).port .l0).selected = true ∧
    ((selecting []).port .l0).timedOut = false ∧ ((selecting []).port .l0).slots ≤ ((selecting []).port .l0).hold ∧
    ({ (selecting []).port .l0 with slots := 3, timedOut := true } : Port).timedOut = true :=
  ⟨site_timing, rfl, rfl, by decide +kernel, rfl⟩

/-- A period of L0 that has clocked nothing in. -/
theorem witness_FetchEmptiesTheBuffer :
    ((selecting []).port .l0).selected = true ∧ ((selecting []).port .l0).timedOut = false ∧
    ((selecting []).port .l0).bitsIn = [] := by decide +kernel

/-- The site with no link holding any right but READ on L3, which is bound to no sector. -/
def rightless : State :=
  let none : Rights := { policy := false, sector := false, read := false }
  { site with policy := { site.policy with rights := { l0 := none, l1 := none, l2 := none, l3 := { none with read := true } } } }

/-- Links without a right, and L3 without a sector; a request of the last group with an answer. -/
theorem witness_RightsAreCheckedFirst :
    (Instr.setPolicy .l0 0 []).request? = some (.setPolicy, .l0, 0, []) ∧ (rightless.rights .l0).policy = false ∧
    (rightless.rights .l0).sector = false ∧ (rightless.rights .l0).read = false ∧
    (site.rights .l3).sector = true ∧ (rightless.rights .l3).read = true ∧
    (Unbound site .l3 ∧ Unbound rightless .l3) ∧
    exec (.readSectors .l3 0 []) site = .next (run (.readSectors .l3 0 []) site) ∧
    ∃ r, ((run (.readSectors .l3 0 []) site).port .l3).buffer = some r :=
  ⟨rfl, rfl, rfl, rfl, rfl, rfl, ⟨site_unbound3, site_unbound3⟩, rfl, ⟨_, rfl⟩⟩

/-- A refusal: READ SUBSCRIBER of an id that no record holds. -/
theorem witness_RefusalChangesNothing :
    let c : Instr := .readSubscriber .l3 0 [1, 0, 0]
    c.request? = some (.readSubscriber, .l3, 0, [1, 0, 0]) ∧ exec c site = .next (run c site) ∧
    ((run c site).port .l3).buffer = some { status := .noSubscriber, tag := 0, kind := 12, body := [] } ∧
    16 ≤ statusNo .noSubscriber := ⟨rfl, rfl, by decide +kernel, by decide⟩

/-- A request that is none of those a clause names. -/
theorem witness_RequestsReachOnlyTheirState :
    let c : Instr := .attach .l2 0 [103, 0, 0, 7]
    c.request? = some (.attach, .l2, 0, [103, 0, 0, 7]) ∧ exec c site = .next (run c site) ∧
    ReqKind.attach ≠ .setTiming ∧ ReqKind.attach ≠ .restartScheduling ∧
    ReqKind.attach ∉ [ReqKind.setPolicy, .setBarMask, .pinSector, .setLinkRights] ∧ Link.l0 ≠ .l2 :=
  ⟨rfl, rfl, by decide, by decide, by decide, by decide⟩

/-! ### Witnesses: the policy and the timing -/

/-- Items that pass: identifier, window and N in order. -/
theorem notRefused {s : State} {item : Byte × Byte × Byte} (h : item.1.toNat ≠ 0 ∧ item.1.toNat ≤ 14)
    (h3 : item.1.toNat = 3 → item.2.1.toNat < item.2.2.toNat ∧ item.2.2.toNat ≤ 15)
    (h1 : item.1.toNat = 1 → s.policy.n ≤ max 1 (min 3 item.2.1.toNat)) (st : Status) : ¬ItemRefused s item st := by
  rintro (⟨hh, -⟩ | ⟨hi, hh, -⟩ | ⟨hi, -, k, hk, hk', -⟩)
  · omega
  · exact hh (h3 hi)
  · have := h1 hi; omega

/-- A refused first item of each kind, one after an item that passes, and a body that is no list. -/
theorem witness_SetPolicyRefusedWhole :
    (site.rights .l3).policy = true ∧
    ItemRefused site (15, 0, 0) .range ∧ ItemRefused site (3, 12, 12) .range ∧ ItemRefused site (1, 2, 0) .inUse ∧
    ([(2, 8, 0), (15, 0, 0)] : List (Byte × Byte × Byte))[1]? = some (15, 0, 0) ∧
    (∀ st', ¬ItemRefused site (2, 8, 0) st') ∧ ([1, 3, 0, 1] : List Byte).length % 3 ≠ 0 := by
  refine ⟨rfl, .inl ⟨by decide, rfl⟩, .inr (.inl ⟨by decide, by decide, rfl⟩), .inr (.inr ⟨by decide, rfl, .s2, by decide,
    by decide +kernel, .inl (by decide +kernel)⟩), rfl, notRefused (by decide) (by decide) (by decide), by decide⟩

/-- The five items of section 1.10, and an N item, which changes the state of no sector. -/
theorem witness_SetPolicyStoresEveryItem :
    (site.rights .l3).policy = true ∧
    (∀ k, (site.sector k).state = .disabled ↔ max 1 (min 3 (3 : Byte).toNat) ≤ sectorNo k) ∧
    ∀ item ∈ ([(2, 14, 0), (9, 72, 0), (3, 1, 13), (6, 208, 7), (2, 8, 0), (1, 3, 0)] : List (Byte × Byte × Byte)),
      ∀ st, ¬ItemRefused site item st := by
  refine ⟨rfl, by intro k; cases k <;> decide +kernel, fun item h st => ?_⟩
  have hp := List.all_eq_true.1 (show ([(2, 14, 0), (9, 72, 0), (3, 1, 13), (6, 208, 7), (2, 8, 0), (1, 3, 0)].all
    fun it : Byte × Byte × Byte => decide ((it.1.toNat ≠ 0 ∧ it.1.toNat ≤ 14) ∧
      (it.1.toNat = 3 → it.2.1.toNat < it.2.2.toNat ∧ it.2.2.toNat ≤ 15) ∧
      (it.1.toNat = 1 → 3 ≤ max 1 (min 3 it.2.1.toNat)))) = true by decide) item h
  obtain ⟨h1, h2, h3⟩ := of_decide_eq_true hp
  exact notRefused h1 h2 h3 st

/-- Twelve mask bytes for sector 2, and sector 3. -/
theorem witness_SetBarMaskReplacesOneMask :
    (site.rights .l3).policy = true ∧ (List.replicate 12 (255 : Byte)).length = 12 ∧ sectorNo .s2 = (2 : Byte).toNat ∧
    2 < (3 : Byte).toNat ∧ ([] : List Byte).length ≠ 13 := by decide +kernel

/-- A right, a bound and an unbound sector, and a body. -/
theorem witness_RestartClearsScheduling :
    (site.rights .l3).policy = true ∧ (site.sector .s0).state.link? = some .l0 ∧
    (State.reset.sector .s0).state.link? = none ∧ ([0] : List Byte) ≠ [] := by decide +kernel

/-- The right, and bodies of five and six bytes. -/
theorem witness_SetTimingStoresPendingSet :
    (site.rights .l3).policy = true ∧ ([0, 0, 0, 0, 0] : List Byte).length ≠ 6 := by decide +kernel

/-! ### Witnesses: the subscriber records -/

/-- Part 3, a record of each state, an unused id, and bodies of a wrong length. -/
theorem witness_ReadsReportAndChangeNothing :
    2 < (3 : Byte).toNat ∧ Holds site 2 rec2 ∧ rec2.attachment = .unbound ∧ Holds site 0 rec0 ∧
    rec0.attachment = .active .s0 3 ∧ Holds site 5 rec5 ∧ rec5.attachment = .moving .s0 9 .s1 3 ∧
    rec5.id = field24 105 0 0 ∧ IdUnused site (field24 1 0 0) ∧ ([] : List Byte).length ≠ 3 :=
  ⟨by decide, site_holds (2, rec2) (by decide), rfl, site_holds (0, rec0) (by decide), rfl,
    site_holds (5, rec5) (by decide), rfl, rfl, site_idUnused, by decide⟩

/-- A table with every record in use. -/
def full : State := { State.reset with table := Vector.replicate 192 ⟨1, some rec0⟩ }

/-- Id 0, a held id, a full table, and record 4 as the lowest FREE one. -/
theorem witness_AdmitTakesLowestFreeRecord :
    (site.rights .l3).policy = true ∧ Holds site 0 rec0 ∧ rec0.id = 101 ∧ IdUnused full 1 ∧
    (∀ j, full.occupant j ≠ none) ∧ IdUnused site 1 ∧ site.occupant 4 = none ∧
    ∀ j, j < (4 : RecIdx) → site.occupant j ≠ none := by
  have hf : ∀ j, full.occupant j = some rec0 := by decide +kernel
  refine ⟨rfl, site_holds (0, rec0) (by decide), rfl, fun j q hq => ?_, fun j => by rw [hf j]; simp, site_idUnused,
    by decide +kernel, by decide +kernel⟩
  rw [hf j] at hq
  rw [← Option.some.inj hq]; decide

/-- A record that is held and an id that is not. -/
theorem witness_TermsAndSuspensionOfARecord :
    (site.rights .l3).policy = true ∧ Holds site 0 rec0 ∧ rec0.id = 101 ∧ IdUnused site 1 :=
  ⟨rfl, site_holds (0, rec0) (by decide), rfl, site_idUnused⟩

/-- Records ADMITTED, ACTIVE and MOVING. -/
theorem witness_RemoveFreesTheRecord :
    (site.rights .l3).policy = true ∧ IdUnused site (field24 1 0 0) ∧
    Holds site 2 rec2 ∧ rec2.attachment = .unbound ∧ rec2.id = field24 103 0 0 ∧
    Holds site 0 rec0 ∧ rec0.attachment.place? = some (.s0, 3) ∧
    Holds site 5 rec5 ∧ rec5.attachment = .moving .s0 9 .s1 3 :=
  ⟨rfl, site_idUnused, site_holds (2, rec2) (by decide), rfl, rfl, site_holds (0, rec0) (by decide), rfl,
    site_holds (5, rec5) (by decide), rfl⟩

/-! ### Witnesses: the sectors -/

/-- A state for each case of R56. -/
theorem witness_BindSectorCases :
    let pinned : State := { State.reset with policy := { Policy.reset with pins := { s0 := some .l1, s1 := none, s2 := none } } }
    let two : State := { State.reset with
      sectors := { State.reset.sectors with s2 := { Sector.reset with state := .disabled } } }
    let held : State := { State.reset with
      sectors := { State.reset.sectors with s2 := { Sector.reset with state := .silent .l0 } } }
    (site.rights .l0).sector = true ∧ 2 < (3 : Byte).toNat ∧ (site.sector .s0).state.link? = some .l0 ∧
    ((two.rights .l0).sector = true ∧ (two.sector .s2).state = .disabled ∧ (two.sector .s2).state.link? ≠ some .l0) ∧
    (pinned.policy.pins.get .s0 = some .l1 ∧ Link.l1 ≠ .l0) ∧
    ((site.sector .s1).state.link? = some .l1 ∧ (site.sector .s1).state.link? ≠ some .l0) ∧
    ((held.sector .s0).state.link? = none ∧ BoundTo held .l0 .s2) ∧
    ((State.reset.sector .s0).state.link? = none ∧ (State.reset.sector .s0).state ≠ .disabled ∧
      Unbound State.reset .l0 ∧ (∀ p, State.reset.policy.pins.get .s0 = some p → p = .l0)) := by
  refine ⟨rfl, by decide, rfl, ⟨rfl, rfl, by decide +kernel⟩, ⟨rfl, by decide⟩, ⟨rfl, by decide +kernel⟩,
    ⟨rfl, rfl, ?_⟩, rfl, by decide +kernel, ?_, ?_⟩
  · intro j; cases j <;> decide +kernel
  · intro k; cases k <;> decide +kernel
  · intro p h; cases p <;> simp [State.reset, Policy.reset, PerSector.get] at h

/-- L1 bound to sector 1, a pin to another link, to the same link, and none; a pin byte of 4. -/
theorem witness_ReleaseAndPinEndBindings :
    (site.rights .l1).sector = true ∧ BoundTo site .l1 .s1 ∧ (site.rights .l3).policy = true ∧
    ((site.sector .s1).state.link? = some .l1 ∧ Link.l0 ≠ .l1) ∧
    (∀ p j, some Link.l1 = some p → (site.sector .s1).state.link? = some j → p = j) ∧
    (∀ p j, (none : Option Link) = some p → (site.sector .s1).state.link? = some j → p = j) ∧
    (3 < (4 : Byte).toNat ∧ (4 : Byte) ≠ 255) := by
  refine ⟨rfl, site_bound1, rfl, ⟨rfl, by decide⟩, ?_, ?_, by decide⟩
  · intro p j hp hj
    have h1 : (site.sector .s1).state.link? = some .l1 := rfl
    rw [h1] at hj
    rw [← Option.some.inj hp, ← Option.some.inj hj]
  · intro p j hp; cases hp

/-- An ADMITTED record, one bound elsewhere, a handle in use and one that is free, at both ends of the range. -/
theorem witness_AttachBindsTheRecord :
    (site.rights .l0).sector = true ∧ BoundTo site .l0 .s0 ∧ ((0 : Byte).toNat = 0 ∨ 127 < (128 : Byte).toNat) ∧
    (1 ≤ (127 : Byte).toNat ∧ (127 : Byte).toNat ≤ 127) ∧ IdUnused site (field24 1 0 0) ∧
    (Holds site 0 rec0 ∧ rec0.attachment.place? = some (.s0, 3)) ∧
    (Holds site 2 rec2 ∧ rec2.id = field24 103 0 0 ∧ rec2.attachment = .unbound) ∧
    site.handleEntry .s0 3 = some ⟨3, 0, 4⟩ ∧ (∀ e ∈ (site.sector .s0).map, e.handle ≠ 127) ∧
    (site.sector .s2).ring = [] := by
  refine ⟨rfl, site_bound0, by decide, by decide, site_idUnused, ⟨site_holds (0, rec0) (by decide), rfl⟩,
    ⟨site_holds (2, rec2) (by decide), rfl, rfl⟩, by decide +kernel, by decide +kernel, rfl⟩

/-- A free handle, an ACTIVE record under the DL head, and a MOVING one; their places in the ring. -/
theorem witness_DetachReturnsToAdmitted :
    (site.rights .l0).sector = true ∧ BoundTo site .l0 .s0 ∧ site.lookup .s0 127 = none ∧
    site.lookup .s0 4 = some (1, rec1) ∧ site.lookup .s0 9 = some (5, rec5) ∧
    ((site.sector .s0).ring = [0] ++ 1 :: [5, 3, 6] ∧ (1 : RecIdx) ∉ [(0 : RecIdx)] ∧
      (1 : RecIdx) ∉ [(5 : RecIdx), 3, 6]) ∧ (site.sector .s0).head .dl = some 1 :=
  ⟨rfl, site_bound0, by decide +kernel, by decide +kernel, by decide +kernel,
    ⟨by decide +kernel, by decide, by decide⟩, rfl⟩

/-- A batch of an accepted entry and a rejected one, in the open window and in a closed one; a count of 8. -/
theorem witness_DemandBatchReports :
    (site.rights .l0).sector = true ∧ BoundTo site .l0 .s0 ∧ 7 < (8 : Byte).toNat ∧
    (∀ r ∈ [(⟨3, 65535, 0, 255, 65535⟩ : ReportEntry), ⟨255, 0, 0, 0, 0⟩], entryFits r) ∧
    (site.lookup .s0 3).map Prod.fst = some 0 ∧ site.lookup .s0 255 = none ∧ site.windowOpen = true ∧
    State.reset.windowOpen = false ∧ site.occupant 0 = some rec0 ∧ site.occupant 4 = none := by
  refine ⟨rfl, site_bound0, by decide, by unfold entryFits; decide, by decide +kernel, by decide +kernel, rfl, rfl,
    by decide +kernel, by decide +kernel⟩

/-! ### Witnesses: plans, moves and links -/

/-- LIVE's frame, a NEXT's, a build's, and none of them; grants with tiles below 96. -/
theorem witness_PlanReadsFindTheFrame :
    let s : State := { site with next := some { frame := 701, plan := plan0 } }
    (site.rights .l0).read = true ∧ BoundTo site .l0 .s0 ∧
    ((188 : Byte).toNat + 256 * (2 : Byte).toNat) % 4096 = site.live.frame ∧
    (State.reset.live.plan = .empty false ∧ site.live.plan = .built plan0 ∧
      ({ site with live := { frame := 700, plan := .repeated plan0 } } : State).live.plan = .repeated plan0) ∧
    (s.live.frame ≠ 701 ∧ s.next = some { frame := 701, plan := plan0 }) ∧
    (building.live.frame ≠ 701 ∧ (∀ n ∈ building.next, n.frame ≠ 701) ∧ (∃ b ∈ building.builder, b.snapshot.frame = 701)) ∧
    (site.live.frame ≠ 699 ∧ (∀ n ∈ site.next, n.frame ≠ 699) ∧ ∀ b ∈ site.builder, b.snapshot.frame ≠ 699) ∧
    (∀ t ∈ grant0.tiles, t < 96) ∧ (12 ∈ grantSlots grant0) := by
  refine ⟨rfl, site_bound0, by decide +kernel, ⟨rfl, rfl, rfl⟩, ⟨by decide +kernel, rfl⟩,
    ⟨by decide +kernel, by decide +kernel, _, rfl, rfl⟩,
    ⟨by decide +kernel, by decide +kernel, by decide +kernel⟩, by decide, by decide⟩

/-- A site whose sector 1 holds eight notices. -/
def crowded : State :=
  let n : Notice := { id := 105, index := 5, generation := 4, source := .s0, ta := 0, cls := 0, terms := rec0.terms,
                      frames := 1 }
  { site with queues := { site.queues with s1 := List.replicate 8 n } }

/-- A state for each check of R138. -/
theorem witness_MoveOffersTheRecord :
    (site.rights .l0).sector = true ∧ BoundTo site .l0 .s0 ∧ 2 < (3 : Byte).toNat ∧
    (1 ≤ (127 : Byte).toNat ∧ (127 : Byte).toNat ≤ 127) ∧ site.lookup .s0 127 = none ∧
    (site.lookup .s0 9 = some (5, rec5) ∧ rec5.attachment.move? = some (.s1, 3)) ∧
    (site.lookup .s0 4 = some (1, rec1) ∧ rec1.attachment.move? = none ∧ rec1.suspended = true) ∧
    (site.lookup .s0 3 = some (0, rec0) ∧ rec0.attachment.move? = none ∧ rec0.suspended = false) ∧
    (SectorId.s1 ≠ .s0 ∧ (site.sector .s1).state = .present .l1 ∧ (site.queue .s1).length < 8) ∧
    8 ≤ (crowded.queue .s1).length ∧
    ((site.sector .s2).state ≠ .disabled ∧ ∀ j, (site.sector .s2).state ≠ .present j) :=
  ⟨rfl, site_bound0, by decide, by decide, by decide +kernel, ⟨by decide +kernel, rfl⟩,
    ⟨by decide +kernel, rfl, rfl⟩, ⟨by decide +kernel, rfl, rfl⟩, ⟨by decide, rfl, by decide +kernel⟩, by decide +kernel,
    by decide +kernel, by intro j; cases j <;> decide +kernel⟩

/-- An empty queue and one with a notice; moves whose notice is queued and read; a record that is not MOVING. -/
theorem witness_NoticesReadAndMovesCancelled :
    (site.rights .l1).sector = true ∧ BoundTo site .l1 .s1 ∧ (∃ n, site.queue .s1 = n :: []) ∧
    BoundTo site .l0 .s0 ∧ site.queue .s0 = [] ∧ site.lookup .s0 127 = none ∧
    (site.lookup .s0 9 = some (5, rec5) ∧ rec5.attachment = .moving .s0 9 .s1 3) ∧
    (site.lookup .s0 10 = some (6, rec6) ∧ rec6.attachment = .moving .s0 10 .s1 1) ∧
    (site.lookup .s0 3 = some (0, rec0) ∧ rec0.attachment.move? = none) :=
  ⟨rfl, site_bound1, ⟨_, rfl⟩, site_bound0, rfl, by decide +kernel, ⟨by decide +kernel, rfl⟩, ⟨by decide +kernel, rfl⟩,
    ⟨by decide +kernel, rfl⟩⟩

/-- A record for each check of R143. -/
theorem witness_ClaimMovesTheRecord :
    (site.rights .l1).sector = true ∧ BoundTo site .l1 .s1 ∧ IdUnused site (field24 1 0 0) ∧
    (Holds site 2 rec2 ∧ rec2.attachment = .unbound) ∧
    (Holds site 3 rec3 ∧ rec3.attachment = .active .s0 12 ∧ rec3.lapse = some .s1) ∧
    (Holds site 0 rec0 ∧ rec0.lapse ≠ some .s1) ∧
    (Holds site 5 rec5 ∧ rec5.id = field24 105 0 0 ∧ rec5.attachment = .moving .s0 9 .s1 3) ∧
    (BoundTo site .l2 .s2 ∧ SectorId.s1 ≠ .s2) ∧ site.handleEntry .s1 30 = some ⟨30, 15, 4⟩ ∧
    ∀ e ∈ (site.sector .s1).map, e.handle ≠ 31 :=
  ⟨rfl, site_bound1, site_idUnused, ⟨site_holds (2, rec2) (by decide), rfl⟩,
    ⟨site_holds (3, rec3) (by decide), rfl, rfl⟩, ⟨site_holds (0, rec0) (by decide), by decide⟩,
    ⟨site_holds (5, rec5) (by decide), rfl, rfl⟩, ⟨site_bound2, by decide⟩, by decide +kernel, by decide +kernel⟩

/-- The last POLICY holder, a link that loses SECTOR while bound, and one that is bound to none. -/
theorem witness_SetLinkRightsKeepsAPolicyHolder :
    let r : Rights := { policy := false, sector := true, read := true }
    let last : State := { site with policy := { site.policy with rights := { l0 := r, l1 := r, l2 := r
                                                                             l3 := { r with policy := true } } } }
    (last.rights .l3).policy = true ∧ (∀ q, q ≠ .l3 → (last.rights q).policy = false) ∧
    3 < (4 : Byte).toNat ∧ (site.rights .l3).policy = true ∧ (site.rights .l1).sector = true ∧
    ((253 : Byte).getLsbD 0 = true ∧ (253 : Byte).getLsbD 1 = false) ∧ BoundTo site .l1 .s1 ∧ Unbound site .l3 ∧
    (Link.l0 ≠ .l1 ∧ (site.rights .l0).policy = true) := by
  refine ⟨rfl, ?_, by decide, rfl, rfl, by decide, site_bound1, site_unbound3, by decide, rfl⟩
  intro q; cases q <;> decide +kernel

/-- Links bound and unbound, a request with a body, and each way a cause can be the top one. -/
theorem witness_LinkRequestsTouchTheirOwnPort :
    let c : Causes := { linkFault := false, planReady := false, handover := false, sectorState := false, timing := true }
    ([0] : List Byte) ≠ [] ∧ Unbound site .l3 ∧ BoundTo site .l1 .s1 ∧ (site.rights .l3).policy = true ∧
    ((site.port .l1).causes.and (site.port .l1).mask).handover = true ∧
    ({ c with linkFault := true }.and everyCause).linkFault = true ∧ ({ c with planReady := true }.and everyCause).planReady = true ∧
    ({ c with sectorState := true }.and everyCause).sectorState = true ∧ c.and everyCause = c ∧
    (site.port .l3).causes.and (site.port .l3).mask =
      { linkFault := false, planReady := false, handover := false, sectorState := false, timing := false } := by
  refine ⟨by decide, site_unbound3, site_bound1, rfl, by decide +kernel, rfl, rfl, rfl, rfl, by decide +kernel⟩

/-! ### Witnesses: the laws every step keeps -/

/-- A step from a state that obeys the law, for each law: the frame start of the site. -/
theorem witness_step : ∃ t, step { site with pending := [.frameStart] } = .next t := ⟨_, rfl⟩

theorem witness_PolicyLawsKept :
    PolicyInRange { site with pending := [.frameStart] } ∧ SomePolicyHolder { site with pending := [.frameStart] } :=
  site_policy

theorem witness_TimingLawsKept : TimingInRange { site with pending := [.frameStart] } := site_timing

theorem witness_WindowBuildAndPlanFrameLawsKept :
    let s : State := { building with pending := [.frameStart], next := some { frame := 701, plan := plan0 } }
    WindowFollowsSlots { site with pending := [.frameStart] } ∧
    BuildFollowsWindow { s with ftu := { site.ftu with count := 144000 } } ∧ BuildAtItsStart s ∧ PlanFramesAgree s := by
  refine ⟨site_window, ⟨?_, by unfold windowOk; decide +kernel, by unfold windowOk; decide +kernel, by decide +kernel⟩,
    ⟨site_policy.1, site_maps, fun b hb => ?_⟩, by unfold PlanFramesAgree; decide +kernel⟩
  · unfold TimingInRange timingOk; decide +kernel
  · rw [← Option.some.inj (show some _ = some b from hb)]
    exact ⟨snap615_ok, rfl⟩

theorem witness_SubscriberLawsKept :
    IdsUnique { site with pending := [.frameStart] } ∧ CreditsBounded { site with pending := [.frameStart] } ∧
    RecordsInRange { site with pending := [.frameStart] } := ⟨site_ids, site_credits, site_records⟩

theorem witness_BindingLawsKept :
    BindingsUnique { site with pending := [.frameStart] } ∧ SectorsFollowN { site with pending := [.frameStart] } :=
  ⟨site_bindings, site_sectors⟩

theorem witness_MapAndRingLawsKept : MapsAndRingsAgree { site with pending := [.frameStart] } := site_maps

theorem witness_NoticeAndHandoverLawsKept :
    NoticesAgree { site with pending := [.frameStart] } ∧ HandoverFollowsQueues { site with pending := [.frameStart] } :=
  ⟨site_notices, site_handover⟩

end Sys2Proof.Tests
end

section
/-! Proofs of the statements of the tile grid and the site policy (chapter 1): SET BAR MASK, RESTART SCHEDULING and
power-on reset. -/

namespace Sys2Proof.Machine

open Sys2Proof.Safety

/-! ### The mask that a run of bytes spells (R166) -/

/-- A byte below a number shifted up by eight bits: the low eight bits are the byte's, the others the number's. -/
theorem testBit_byte_add (b : Byte) (n i : Nat) :
    (b.toNat + 256 * n).testBit i = if i < 8 then b.getLsbD i else n.testBit (i - 8) := by
  rw [Nat.add_comm]
  exact Nat.testBit_two_pow_mul_add n b.isLt i

/-- In the number of a run of bytes, the least significant first, bit `i` is bit `i mod 8` of byte `floor(i / 8)`. -/
theorem testBit_foldr_bytes (bytes : List Byte) (i : Nat) :
    (bytes.foldr (fun (b : Byte) acc => b.toNat + 256 * acc) 0).testBit i = (bytes[i / 8]?.getD 0).getLsbD (i % 8) := by
  induction bytes generalizing i with
  | nil => simp
  | cons b rest ih =>
    rw [List.foldr_cons, testBit_byte_add, ih]
    split
    next h => rw [Nat.div_eq_of_lt h, Nat.mod_eq_of_lt h]; rfl
    next h =>
      obtain ⟨j, rfl⟩ := Nat.exists_eq_add_of_le' (Nat.le_of_not_lt h)
      rw [Nat.add_sub_cancel, Nat.add_div_right j (by decide), Nat.add_mod_right, List.getElem?_cons_succ]

/-- The mask of a run of bytes has tile `t` at bit `t mod 8` of byte `floor(t / 8)`. -/
theorem getLsbD_maskOfBytes (bytes : List Byte) {tile : Nat} (h : tile < 96) :
    (maskOfBytes bytes).getLsbD tile = (bytes[tile / 8]?.getD 0).getLsbD (tile % 8) := by
  rw [maskOfBytes, BitVec.getLsbD_ofNat, testBit_foldr_bytes, decide_eq_true h, Bool.true_and]

/-! ### SET BAR MASK (R15) -/

/-- From a link with POLICY, SET BAR MASK is its owner's answer. -/
theorem exec_setBarMask {l : Link} {s : State} (tag : Byte) (body : List Byte) (h : (s.rights l).policy = true) :
    exec (.setBarMask l tag body) s =
      .next ((setBarMaskAnswer body s).state.putResponse l
        (reply .setBarMask tag (setBarMaskAnswer body s).status (setBarMaskAnswer body s).body)) :=
  congrArg Host.Outcome.next (serve_allowed tag (setBarMaskAnswer body) h)

/-- A body that is not a sector and twelve bytes is refused. -/
theorem setBarMaskAnswer_of_length {body : List Byte} (s : State) (h : body.length ≠ 13) :
    setBarMaskAnswer body s = refuse s .range [] := by
  cases body with
  | nil => rfl
  | cons kb mask => exact if_neg fun hm => h (congrArg (· + 1) hm)

/-- A number that names no sector is refused. -/
theorem setBarMaskAnswer_of_noSector {kb : Byte} {mask : List Byte} (s : State) (hm : mask.length = 12)
    (hk : 2 < kb.toNat) : setBarMaskAnswer (kb :: mask) s = refuse s .range [] := by
  rw [setBarMaskAnswer, if_pos hm, sectorOf_eq_none hk]

/-- The named sector takes the mask carried. -/
theorem setBarMaskAnswer_of_sector {kb : Byte} {mask : List Byte} {k : SectorId} (s : State) (hm : mask.length = 12)
    (hk : sectorNo k = kb.toNat) :
    setBarMaskAnswer (kb :: mask) s =
      { state := s.setPolicy { s.policy with masks := s.policy.masks.set k (maskOfBytes mask) }
        status := .ok
        body := [] } := by
  rw [setBarMaskAnswer, if_pos hm, sectorOf_eq_some.mpr hk]

/-- Settles O35: the owner's answer case by case, and the bits of the mask it stores. -/
theorem setBarMaskReplacesOneMask : Obligations.SetBarMaskReplacesOneMask := by
  intro l tag body s hr
  rw [exec_setBarMask tag body hr]
  refine ⟨fun hlen => ?_, ?_⟩
  · rw [setBarMaskAnswer_of_length s hlen]; rfl
  · rintro kb mask rfl hm
    refine ⟨fun hk => ?_, fun k hk => ⟨maskOfBytes mask, ?_, fun tile => getLsbD_maskOfBytes mask⟩⟩
    · rw [setBarMaskAnswer_of_noSector s hm hk]; rfl
    · rw [setBarMaskAnswer_of_sector s hm hk]; rfl

/-! ### RESTART SCHEDULING (R17) -/

/-- A sector with no link loses its map, its ring and its heads alone. -/
theorem Sector.restart_of_noLink (m : Nat) {v : Sector} (h : v.state.link? = none) :
    v.restart m = { v with map := [], ring := [], dlHead := none, ulHead := none } := by
  rcases v with ⟨_ | _ | _ | _, _⟩
  case disabled | unbound => rfl
  case silent | present => cases h

/-- A bound sector is SILENT after a restart, with its count at M (R71). -/
theorem Sector.restart_of_link (m : Nat) {v : Sector} {l : Link} (h : v.state.link? = some l) :
    v.restart m = { state := .silent l, missed := m, batchSeen := false, map := [], ring := [], dlHead := none,
                    ulHead := none } := by
  rcases v with ⟨_ | _ | _ | _, _⟩
  case disabled | unbound => cases h
  case silent | present => cases h; rfl

/-- The state after a restart, block by block (R17): the two ways to write the ports, with and without SECTOR STATE
raised, are one. -/
theorem restart_eq (s : State) :
    s.restart = { s with
      table := Vector.ofFn fun i => { generation := (s.record i).generation, occupant := none }
      sectors := PerSector.of fun k => (s.sector k).restart s.policy.m
      queues := { s0 := [], s1 := [], s2 := [] }
      builder := none
      live := { frame := s.live.frame, plan := .empty false }
      next := none
      ports := PerLink.of fun l => { s.port l with causes := { (s.port l).causes with
        planReady := false, handover := false
        sectorState := (s.port l).causes.sectorState ||
          allSectors.any fun k => (s.sector k).state.isPresent } } } := by
  unfold State.restart
  dsimp only
  split
  next h =>
    simp only [h, Bool.or_true, State.raiseSectorState, State.mapPorts, State.port, PerLink.get_of, Port.withCauses]
  next h =>
    simp only [Bool.eq_false_iff.mpr h, Bool.or_false, State.mapPorts, State.port, Port.withCauses]

/-- A restart frees every record and keeps its generation (R53). -/
theorem record_restart (s : State) (i : RecIdx) :
    s.restart.record i = { generation := (s.record i).generation, occupant := none } := by
  rw [restart_eq, State.record, Vector.get_eq_getElem, Vector.getElem_ofFn]

/-- A restart restarts every sector with the M in force. -/
theorem sector_restart (s : State) (k : SectorId) : s.restart.sector k = (s.sector k).restart s.policy.m := by
  rw [restart_eq, State.sector, PerSector.get_of]

/-- A restart empties every notice queue (R150). -/
theorem queue_restart (s : State) (k : SectorId) : s.restart.queue k = [] := by
  rw [restart_eq]; cases k <;> rfl

/-- A restart leaves LIVE EMPTY, with its frame number (R135). -/
theorem restart_live (s : State) : s.restart.live = { frame := s.live.frame, plan := .empty false } := by
  rw [restart_eq]

/-- A restart clears PLAN READY and HANDOVER on each link, and raises SECTOR STATE if a sector was PRESENT (R55,
R165). -/
theorem port_restart (s : State) (l : Link) :
    s.restart.port l = { s.port l with causes := { (s.port l).causes with
      planReady := false, handover := false
      sectorState := (s.port l).causes.sectorState ||
        allSectors.any fun k => (s.sector k).state.isPresent } } := by
  rw [restart_eq, State.port, PerLink.get_of]

/-- A restart abandons the build and drops NEXT, and reaches no block but the records, the sectors, the queues, LIVE and
the ports (R17, R109). -/
theorem restart_frame (s : State) :
    s.restart = { s with table := s.restart.table, sectors := s.restart.sectors, queues := s.restart.queues
                         builder := none, live := s.restart.live, next := none, ports := s.restart.ports } := by
  rw [restart_eq]

/-- From a link with POLICY, RESTART SCHEDULING is its owner's answer. -/
theorem exec_restartScheduling {l : Link} {s : State} (tag : Byte) (body : List Byte)
    (h : (s.rights l).policy = true) :
    exec (.restartScheduling l tag body) s =
      .next ((restartSchedulingAnswer body s).state.putResponse l
        (reply .restartScheduling tag (restartSchedulingAnswer body s).status (restartSchedulingAnswer body s).body)) :=
  congrArg Host.Outcome.next (serve_allowed tag (restartSchedulingAnswer body) h)

/-- RESTART SCHEDULING carries no body. -/
theorem restartSchedulingAnswer_of_body {body : List Byte} (s : State) (h : body ≠ []) :
    restartSchedulingAnswer body s = refuse s .range [] := by
  cases body with
  | nil => exact absurd rfl h
  | cons => rfl

/-- Settles O36: the state answered is the restart's, read block by block. -/
theorem restartClearsScheduling : Obligations.RestartClearsScheduling := by
  intro l tag s hr
  refine ⟨fun body hb => ?_, s.restart, exec_restartScheduling tag [] hr, record_restart s, fun k hk => ?_,
    fun k j hk => ?_, queue_restart s, restart_live s, port_restart s, restart_frame s⟩
  · rw [exec_restartScheduling tag body hr, restartSchedulingAnswer_of_body s hb]; rfl
  · rw [sector_restart, Sector.restart_of_noLink _ hk]
  · rw [sector_restart, Sector.restart_of_link _ hk]

/-! ### Power-on reset (R18, R165) -/

/-- The part after a power-on reset that found these levels on the select and power-low inputs and these commands
waiting: what POWER_ON_RESET leaves, and with every input released and no command `State.reset` (`exec_powerOnReset`,
`reset_eq_resetWith`). -/
def resetWith (selected : Link → Bool) (powerLow : Bool) (pending : List Instr) : State :=
  { State.reset with
    ports := PerLink.of fun l => resetPort (selected l)
    powerLow := powerLow
    pending := pending }

/-- POWER_ON_RESET leaves the reset state with the levels it found. -/
theorem exec_powerOnReset (s : State) :
    exec .powerOnReset s = .next (resetWith (fun l => (s.port l).selected) s.powerLow s.pending) := rfl

theorem reset_eq_resetWith : State.reset = resetWith (fun _ => false) false [] := rfl

section Blocks

variable (selected : Link → Bool) (powerLow : Bool) (pending : List Instr)

theorem port_resetWith (l : Link) : (resetWith selected powerLow pending).port l = resetPort (selected l) := by
  rw [State.port, resetWith, PerLink.get_of]

theorem rights_resetWith (l : Link) :
    (resetWith selected powerLow pending).rights l = { policy := true, sector := true, read := true } := by
  cases l <;> rfl

/-- Every record is FREE with generation 0 (R53). -/
theorem record_resetWith (i : RecIdx) :
    (resetWith selected powerLow pending).record i = { generation := 0, occupant := none } := by
  rw [State.record, Vector.get_eq_getElem]
  exact Vector.getElem_replicate _

theorem sector_resetWith (k : SectorId) : (resetWith selected powerLow pending).sector k = Sector.reset := by
  cases k <;> rfl

theorem queue_resetWith (k : SectorId) : (resetWith selected powerLow pending).queue k = [] := by
  cases k <;> rfl

end Blocks

theorem pins_reset (k : SectorId) : Policy.reset.pins.get k = none := by cases k <;> rfl

/-- Each mask bars tiles 0 and 1 after reset, and no other (R18). -/
theorem masks_reset (k : SectorId) (tile : Nat) : (Policy.reset.masks.get k).getLsbD tile = true ↔ tile < 2 := by
  have h : Policy.reset.masks.get k = 3#96 := by cases k <;> rfl
  have h3 : Nat.testBit 3 tile = decide (tile < 2) := Nat.testBit_two_pow_sub_one 2 tile
  rw [h, BitVec.getLsbD_ofNat, h3]
  simp only [Bool.and_eq_true, decide_eq_true_eq]
  omega

/-- Settles O4: both states are a `resetWith`, read block by block. -/
theorem powerOnResetValues : Obligations.PowerOnResetValues := by
  intro s
  refine ⟨_, exec_powerOnReset s, fun l => ?_, fun l => ?_, fun u hu => ?_⟩
  · rw [port_resetWith]
    exact ⟨fun h => by rw [h]; exact ⟨rfl, rfl⟩, fun h => by rw [h]; decide⟩
  · rw [reset_eq_resetWith, port_resetWith]; rfl
  · obtain ⟨selected, powerLow, pending, rfl⟩ : ∃ f p q, u = resetWith f p q :=
      hu.elim (fun h => ⟨_, _, _, h⟩) fun h => ⟨_, _, _, h.trans reset_eq_resetWith⟩
    refine ⟨rfl, rfl, rfl, rfl, rfl, rfl, rfl, rfl, rfl, rfl, rfl, rfl, rfl,
      rfl, rfl, rfl, rfl, rfl, rfl, rfl, rfl, rfl, rfl, rfl, rfl, rfl, rfl, rfl,
      pins_reset, fun k tile _ => masks_reset k tile, rights_resetWith _ _ _,
      record_resetWith _ _ _, sector_resetWith _ _ _, queue_resetWith _ _ _, rfl, rfl, rfl, rfl, fun l => ?_⟩
    rw [State.attentionLine, port_resetWith]
    cases selected l <;> exact ⟨rfl, rfl, rfl, rfl, rfl, rfl, rfl, rfl, rfl⟩

end Sys2Proof.Machine
end

section
/-! Proofs of the statements of the subscriber records (chapter 3): ADMIT, SET TERMS, SUSPEND, RESUME and REMOVE. -/

namespace Sys2Proof.Machine

open Sys2Proof.Safety

/-! ### A request and its owner's answer -/

/-- With the right it needs, a request ends in the state its owner answers, with that answer in the link's buffer. -/
theorem next_serve_eq {s : State} {l : Link} {tag : Byte} {a : Answer} (kind : ReqKind) (owner : State → Answer)
    (h : (s.rights l).allow (rightNeeded kind) = true) (ha : owner s = a) :
    (Host.Outcome.next (s.serve kind l tag owner) : Host.Outcome State Fault Refusal) =
      .next (a.state.putResponse l (reply kind tag a.status a.body)) := by
  rw [serve_allowed tag owner h, ha]

/-- A request whose body is not the three bytes of an id is refused. -/
theorem withSubscriber_of_length {body : List Byte} (s : State) (act : RecIdx → Occupant → Answer)
    (h : body.length ≠ 3) : withSubscriber s body act = refuse s .range [] := by
  unfold withSubscriber
  split
  · exact absurd rfl h
  · rfl

/-- A request that names an id no record holds is refused (R43). -/
theorem withSubscriber_of_unused {s : State} {i0 i1 i2 : Byte} (act : RecIdx → Occupant → Answer)
    (h : IdUnused s (field24 i0 i1 i2)) : withSubscriber s [i0, i1, i2] act = refuse s .noSubscriber [] := by
  simp only [withSubscriber, findById_of_unused h]

/-- A request that names a held id acts on the record that holds it (R43). -/
theorem withSubscriber_of_holds {s : State} {i0 i1 i2 : Byte} {i : RecIdx} {o : Occupant}
    (act : RecIdx → Occupant → Answer) (h : Holds s i o) (hid : o.id = field24 i0 i1 i2) :
    withSubscriber s [i0, i1, i2] act = act i o := by
  simp only [withSubscriber, ← hid, findById_of_holds h]

/-! ### Terms (R38) -/

/-- The terms carried, each clamped to its range. -/
theorem clampTerms_eq (w rd ru cap : Byte) :
    clampTerms w rd ru cap =
      { weight := max 1 (min 15 w.toNat), resDL := min 4 rd.toNat, resUL := min 4 ru.toNat
        cap := max 1 (min 32 cap.toNat) } := by
  simp only [clampTerms, clampTo, Nat.zero_max]

/-- An answer with terms is OK exactly when each term lies in its range. -/
theorem clampStatus_termsClamped (w rd ru cap : Byte) :
    clampStatus (termsClamped w rd ru cap) =
      if 1 ≤ w.toNat ∧ w.toNat ≤ 15 ∧ rd.toNat ≤ 4 ∧ ru.toNat ≤ 4 ∧ 1 ≤ cap.toNat ∧ cap.toNat ≤ 32 then .ok
      else .okClamped := by
  have hfit : termsClamped w rd ru cap = false ↔
      1 ≤ w.toNat ∧ w.toNat ≤ 15 ∧ rd.toNat ≤ 4 ∧ ru.toNat ≤ 4 ∧ 1 ≤ cap.toNat ∧ cap.toNat ≤ 32 := by
    simp only [termsClamped, clampTerms_eq, ne_eq, decide_eq_false_iff_not, Decidable.not_not, Terms.mk.injEq]
    omega
  split
  next h => rw [hfit.mpr h]; rfl
  next h => rw [Bool.of_not_eq_false fun hf => h (hfit.mp hf)]; rfl

/-! ### ADMIT (R44, R45) -/

/-- A body that is not an id and four terms is refused. -/
theorem admitAnswer_of_length {body : List Byte} (s : State) (h : body.length ≠ 7) :
    admitAnswer body s = refuse s .range [] := by
  unfold admitAnswer
  split
  · exact absurd rfl h
  · rfl

section Admit

variable {s : State} {i0 i1 i2 : Byte} (w rd ru cap : Byte)

/-- Id 0 is refused before anything is looked up. -/
theorem admitAnswer_of_zero (h : field24 i0 i1 i2 = 0) :
    admitAnswer [i0, i1, i2, w, rd, ru, cap] s = refuse s .range [] := by
  rw [admitAnswer, if_pos h]

/-- A held id is refused with the index and generation of its record. -/
theorem admitAnswer_of_holds {i : RecIdx} {o : Occupant} (h0 : field24 i0 i1 i2 ≠ 0) (h : Holds s i o)
    (hid : o.id = field24 i0 i1 i2) :
    admitAnswer [i0, i1, i2, w, rd, ru, cap] s = refuse s .duplicate (recordBytes s i) := by
  rw [admitAnswer, if_neg h0, ← hid, findById_of_holds h]
  rfl

/-- With no FREE record an unused id is refused. -/
theorem admitAnswer_of_full (h0 : field24 i0 i1 i2 ≠ 0) (h : IdUnused s (field24 i0 i1 i2))
    (hfull : ∀ j, s.occupant j ≠ none) :
    admitAnswer [i0, i1, i2, w, rd, ru, cap] s = refuse s .tableFull [] := by
  rw [admitAnswer, if_neg h0, findById_of_unused h, lowestFree_none hfull]

/-- An unused id takes the FREE record with the lowest index, under its next generation. -/
theorem admitAnswer_of_free {i : RecIdx} (h0 : field24 i0 i1 i2 ≠ 0) (h : IdUnused s (field24 i0 i1 i2))
    (hi : s.occupant i = none) (hlow : ∀ j, j < i → s.occupant j ≠ none) :
    admitAnswer [i0, i1, i2, w, rd, ru, cap] s =
      let gen := nextGeneration (s.record i).generation
      { state := s.setRecord i { generation := gen
                                 occupant := some (freshOccupant (field24 i0 i1 i2) (clampTerms w rd ru cap)) }
        status := clampStatus (termsClamped w rd ru cap)
        body := [BitVec.ofNat 8 i.val, BitVec.ofNat 8 gen] ++ termsBytes (clampTerms w rd ru cap) } := by
  rw [admitAnswer, if_neg h0, findById_of_unused h, lowestFree_eq hi hlow]
  rfl

end Admit

/-- Settles O39: the owner's answer in the order of R44's checks, and R45's record. -/
theorem admitTakesLowestFreeRecord : Obligations.AdmitTakesLowestFreeRecord := by
  intro l tag s hr
  refine ⟨fun body hlen => ?_, fun i0 i1 i2 w rd ru cap => ⟨fun h0 => ?_, fun h0 => ⟨fun i o h hid => ?_,
    fun h hfull => ?_, fun h i hi hlow => ?_⟩⟩⟩
  · exact next_serve_eq .admitSubscriber (admitAnswer _) hr (admitAnswer_of_length s hlen)
  · exact next_serve_eq .admitSubscriber (admitAnswer _) hr (admitAnswer_of_zero w rd ru cap h0)
  · exact next_serve_eq .admitSubscriber (admitAnswer _) hr (admitAnswer_of_holds w rd ru cap h0 h hid)
  · exact next_serve_eq .admitSubscriber (admitAnswer _) hr (admitAnswer_of_full w rd ru cap h0 h hfull)
  · have hfree := admitAnswer_of_free w rd ru cap h0 h hi hlow
    rw [clampStatus_termsClamped, clampTerms_eq] at hfree
    exact next_serve_eq .admitSubscriber (admitAnswer _) hr hfree

/-! ### SET TERMS, SUSPEND and RESUME (R46, R48, R49) -/

/-- A body that is not an id and four terms is refused. -/
theorem setTermsAnswer_of_length {body : List Byte} (s : State) (h : body.length ≠ 7) :
    setTermsAnswer body s = refuse s .range [] := by
  unfold setTermsAnswer
  split
  · exact absurd rfl h
  · rfl

/-- SET TERMS for an id no record holds is refused. -/
theorem setTermsAnswer_of_unused {s : State} {i0 i1 i2 : Byte} (w rd ru cap : Byte)
    (h : IdUnused s (field24 i0 i1 i2)) :
    setTermsAnswer [i0, i1, i2, w, rd, ru, cap] s = refuse s .noSubscriber [] := by
  simp only [setTermsAnswer, findById_of_unused h]

/-- SET TERMS gives the record that holds the id the terms carried. -/
theorem setTermsAnswer_of_holds {s : State} {i0 i1 i2 : Byte} {i : RecIdx} {o : Occupant} (w rd ru cap : Byte)
    (h : Holds s i o) (hid : o.id = field24 i0 i1 i2) :
    setTermsAnswer [i0, i1, i2, w, rd, ru, cap] s =
      { state := s.setOccupant i (some (o.setTerms (clampTerms w rd ru cap)))
        status := clampStatus (termsClamped w rd ru cap)
        body := recordBytes s i ++ termsBytes (clampTerms w rd ru cap) } := by
  simp only [setTermsAnswer, ← hid, findById_of_holds h]
  rfl

/-- Marking a record's grants void acts on LIVE and on a BUILT NEXT alone (R128). -/
theorem voidRecord_eq (s : State) (i : RecIdx) :
    s.voidRecord i = { s with
      live := liveVoided (fun _ => isFor i (s.record i).generation) s.live
      next := nextVoided (fun _ => isFor i (s.record i).generation) s.next } := by
  rw [← grantFor_eq]
  rfl

/-- SUSPEND sets the flag of the record that holds the id and marks its grants void. -/
theorem suspendAnswer_of_holds {s : State} {i0 i1 i2 : Byte} {i : RecIdx} {o : Occupant} (h : Holds s i o)
    (hid : o.id = field24 i0 i1 i2) :
    suspendAnswer [i0, i1, i2] s =
      { state := { s.setOccupant i (some { o with suspended := true }) with
          live := liveVoided (fun _ => isFor i (s.record i).generation) s.live
          next := nextVoided (fun _ => isFor i (s.record i).generation) s.next }
        status := .ok
        body := recordBytes s i } := by
  rw [suspendAnswer, withSubscriber_of_holds _ h hid, voidRecord_eq, generation_setOccupant]
  rfl

/-- Settles O40: each owner's answer by the length of the body and by the record that holds the id. -/
theorem termsAndSuspensionOfARecord : Obligations.TermsAndSuspensionOfARecord := by
  intro l tag s hr
  refine ⟨fun body hlen => ?_, fun body hlen => ⟨?_, ?_⟩, fun i0 i1 i2 w rd ru cap =>
    ⟨fun h => ⟨?_, ?_, ?_⟩, fun i o h hid => ⟨?_, ?_, ?_⟩⟩⟩
  · exact next_serve_eq .setTerms (setTermsAnswer _) hr (setTermsAnswer_of_length s hlen)
  · exact next_serve_eq .suspend (suspendAnswer _) hr (withSubscriber_of_length s _ hlen)
  · exact next_serve_eq .resume (resumeAnswer _) hr (withSubscriber_of_length s _ hlen)
  · exact next_serve_eq .setTerms (setTermsAnswer _) hr (setTermsAnswer_of_unused w rd ru cap h)
  · exact next_serve_eq .suspend (suspendAnswer _) hr (withSubscriber_of_unused _ h)
  · exact next_serve_eq .resume (resumeAnswer _) hr (withSubscriber_of_unused _ h)
  · have hset := setTermsAnswer_of_holds w rd ru cap h hid
    rw [clampStatus_termsClamped, clampTerms_eq] at hset
    exact next_serve_eq .setTerms (setTermsAnswer _) hr hset
  · exact next_serve_eq .suspend (suspendAnswer _) hr (suspendAnswer_of_holds h hid)
  · exact next_serve_eq .resume (resumeAnswer _) hr (withSubscriber_of_holds _ h hid)

/-! ### The end of a move and the way out of the home sector (R50, R146)

What REMOVE does in turn: `cancelMoveOf`, `leaveHome`, `voidRecord`, `setOccupant`. -/

/-- Withdrawing a notice reaches no port but by HANDOVER, and only where the queue changed (R140). -/
theorem onlyHandover_withdraw (s : State) (t : SectorId) (i : RecIdx) : OnlyHandover s (s.withdraw t i) := by
  refine ⟨fun j => ?_, fun j hsame => ?_⟩
  · rw [withdraw_port]; split <;> rfl
  · rw [withdraw_port]
    split
    next h =>
      obtain ⟨hqueued, hlink⟩ := h
      have hq := hsame t (by rw [sector_congr (withdraw_sectors s t i)]; exact hlink)
      rw [withdraw_queue, if_pos rfl, List.filter_eq_self] at hq
      obtain ⟨n, hn, hni⟩ := List.any_eq_true.mp hqueued
      exact absurd (of_decide_eq_true hni) (of_decide_eq_true (hq n hn))
    next => rfl

/-- Ending a move reaches no port but by HANDOVER. -/
theorem onlyHandover_cancelMoveOf (s : State) (i : RecIdx) : OnlyHandover s (s.cancelMoveOf i) := by
  have hself : OnlyHandover s s := ⟨fun _ => rfl, fun _ _ => rfl⟩
  unfold State.cancelMoveOf
  split
  · split
    · exact onlyHandover_withdraw _ _ i
    · exact hself
    · exact hself
  · exact hself

/-- Ending a move leaves the other records as they are. -/
theorem cancelMoveOf_record_other (s : State) {i j : RecIdx} (h : j ≠ i) :
    (s.cancelMoveOf i).record j = s.record j := by
  have hocc : (s.cancelMoveOf i).occupant j = s.occupant j := by rw [cancelMoveOf_occupant, if_neg h]
  exact congrArg₂ Record.mk (cancelMoveOf_generation s i j) hocc

/-- A record keeps its home and handle when its move ends. -/
@[simp] theorem place_settled (a : Attachment) : a.settled.place? = a.place? := by cases a <;> rfl

/-- A record with no home leaves no sector. -/
theorem leaveHome_of_noPlace {s : State} {i : RecIdx} {o : Occupant} (ho : s.occupant i = some o)
    (hp : o.attachment.place? = none) : s.leaveHome i = s := by
  simp only [State.leaveHome, ho, hp]

/-- A record leaves the map and the ring of its home sector. -/
theorem leaveHome_of_place {s : State} {i : RecIdx} {o : Occupant} {k : SectorId} {h : Nat}
    (ho : s.occupant i = some o) (hp : o.attachment.place? = some (k, h)) :
    s.leaveHome i = s.setSector k ((s.sector k).leave h i) := by
  simp only [State.leaveHome, ho, hp]

/-- A record that leaves its home sector changes the state of no sector. -/
theorem leaveHome_sectorState (s : State) (i : RecIdx) (k : SectorId) :
    ((s.leaveHome i).sector k).state = (s.sector k).state := by
  unfold State.leaveHome
  split
  · split
    next k' h _ =>
      by_cases hk : k = k'
      · subst hk; rw [sector_setSector_same]; rfl
      · rw [sector_setSector_other _ _ hk]
    next => rfl
  · rfl

/-- The number of a record's state in use, by where it is bound (R35, R167). -/
theorem recordStateNo_of_occupant {r : Record} {o : Occupant} (h : r.occupant = some o) :
    (o.attachment = .unbound → recordStateNo r = 1) ∧
    (∀ k n, o.attachment = .active k n → recordStateNo r = 2) ∧
    (∀ k n t f, o.attachment = .moving k n t f → recordStateNo r = 3) := by
  refine ⟨fun ha => ?_, fun k n ha => ?_, fun k n t f ha => ?_⟩ <;> simp only [recordStateNo, h, ha]

/-! ### REMOVE (R50) -/

/-- The state REMOVE leaves (`removeAnswer_of_holds`). -/
def State.removed (s : State) (i : RecIdx) : State :=
  (((s.cancelMoveOf i).leaveHome i).voidRecord i).setOccupant i none

/-- REMOVE frees the record that holds the id, and answers the state it was in. -/
theorem removeAnswer_of_holds {s : State} {i0 i1 i2 : Byte} {i : RecIdx} {o : Occupant} (h : Holds s i o)
    (hid : o.id = field24 i0 i1 i2) :
    removeAnswer [i0, i1, i2] s =
      { state := s.removed i
        status := .ok
        body := recordBytes s i ++ [BitVec.ofNat 8 (recordStateNo (s.record i))] } := by
  rw [removeAnswer, withSubscriber_of_holds _ h hid]
  rfl

/-- Leaving the home sector and marking grants void change no record. -/
theorem record_voidRecord_leaveHome (s : State) (i j : RecIdx) :
    ((s.leaveHome i).voidRecord i).record j = s.record j :=
  record_congr ((voidRecord_table _ i).trans (leaveHome_table s i)) j

/-- The record is FREE and keeps its generation. -/
theorem record_removed_same (s : State) (i : RecIdx) :
    (s.removed i).record i = { generation := (s.record i).generation, occupant := none } := by
  rw [State.removed, State.setOccupant, record_setRecord_same, record_voidRecord_leaveHome, cancelMoveOf_generation]

/-- The other records are as they were. -/
theorem record_removed_other (s : State) {i j : RecIdx} (h : j ≠ i) : (s.removed i).record j = s.record j := by
  rw [State.removed, State.setOccupant, record_setRecord_other _ _ h, record_voidRecord_leaveHome,
    cancelMoveOf_record_other s h]

/-- The sectors are as the record's way out of its home leaves them. -/
theorem removed_sectors (s : State) (i : RecIdx) : (s.removed i).sectors = ((s.cancelMoveOf i).leaveHome i).sectors :=
  rfl

/-- A record in use whose move has ended is where it was bound. -/
theorem cancelMoveOf_occupant_same {s : State} {i : RecIdx} {o : Occupant} (ho : s.occupant i = some o) :
    (s.cancelMoveOf i).occupant i = some { o with attachment := o.attachment.settled } := by
  rw [cancelMoveOf_occupant, if_pos rfl, ho]
  rfl

/-- REMOVE of an ADMITTED record changes no sector. -/
theorem removed_sectors_of_noPlace {s : State} {i : RecIdx} {o : Occupant} (ho : s.occupant i = some o)
    (hp : o.attachment.place? = none) : (s.removed i).sectors = s.sectors := by
  rw [removed_sectors, leaveHome_of_noPlace (cancelMoveOf_occupant_same ho) (by rw [place_settled, hp]),
    cancelMoveOf_sectors]

/-- REMOVE takes a bound record out of its home sector's map and ring, and changes no other sector. -/
theorem removed_sectors_of_place {s : State} {i : RecIdx} {o : Occupant} {k : SectorId} {h : Nat}
    (ho : s.occupant i = some o) (hp : o.attachment.place? = some (k, h)) :
    (s.removed i).sectors = s.sectors.set k ((s.sector k).leave h i) := by
  rw [removed_sectors, leaveHome_of_place (cancelMoveOf_occupant_same ho) (by rw [place_settled, hp]),
    State.setSector, sector_congr (cancelMoveOf_sectors s i), cancelMoveOf_sectors]

/-- The queues are as the end of the record's move leaves them. -/
theorem queue_removed (s : State) (i : RecIdx) (k : SectorId) : (s.removed i).queue k = (s.cancelMoveOf i).queue k :=
  queue_congr (leaveHome_queues _ i) k

/-- The ports are as the end of the record's move leaves them. -/
theorem port_removed (s : State) (i : RecIdx) (l : Link) : (s.removed i).port l = (s.cancelMoveOf i).port l :=
  port_congr (leaveHome_ports _ i) l

/-- The sectors' states are as the end of the record's move leaves them. -/
theorem removed_sectorState (s : State) (i : RecIdx) (k : SectorId) :
    ((s.removed i).sector k).state = ((s.cancelMoveOf i).sector k).state :=
  leaveHome_sectorState (s.cancelMoveOf i) i k

/-- REMOVE reaches no port but by HANDOVER. -/
theorem onlyHandover_removed (s : State) (i : RecIdx) : OnlyHandover s (s.removed i) := by
  simpa only [OnlyHandover, port_removed, queue_removed, removed_sectorState] using onlyHandover_cancelMoveOf s i

/-- REMOVE reaches no block but the records, the sectors, the queues, the ports and the void flags. -/
theorem removed_frame (s : State) (i : RecIdx) :
    s.removed i = { s with
      table := (s.removed i).table, sectors := (s.removed i).sectors, queues := (s.removed i).queues
      ports := (s.removed i).ports
      live := liveVoided (fun _ => isFor i (s.record i).generation) s.live
      next := nextVoided (fun _ => isFor i (s.record i).generation) s.next } := by
  simp [State.removed, State.setOccupant, State.setRecord, voidRecord_eq, record_congr (leaveHome_table _ i)]

/-- Settles O41: the state REMOVE leaves, read block by block. -/
theorem removeFreesTheRecord : Obligations.RemoveFreesTheRecord := by
  intro l tag i0 i1 i2 s hr
  refine ⟨fun body hlen => next_serve_eq .remove (removeAnswer _) hr (withSubscriber_of_length s _ hlen),
    fun h => next_serve_eq .remove (removeAnswer _) hr (withSubscriber_of_unused _ h), fun i o h hid => ?_⟩
  have ⟨ho, _⟩ := h
  obtain ⟨hunbound, hactive, hmoving⟩ := recordStateNo_of_occupant (r := s.record i) ho
  exact ⟨s.removed i, BitVec.ofNat 8 (recordStateNo (s.record i)),
    next_serve_eq .remove (removeAnswer _) hr (removeAnswer_of_holds h hid),
    fun ha => congrArg (BitVec.ofNat 8) (hunbound ha),
    fun k n ha => congrArg (BitVec.ofNat 8) (hactive k n ha),
    fun k n t f ha => congrArg (BitVec.ofNat 8) (hmoving k n t f ha),
    record_removed_same s i,
    fun j hj => record_removed_other s hj,
    removed_sectors_of_noPlace ho,
    fun k n hp => removed_sectors_of_place ho hp,
    fun k => (queue_removed s i k).trans (cancelMoveOf_queue ho k),
    onlyHandover_removed s i,
    removed_frame s i⟩

end Sys2Proof.Machine
end

section
/-! Proofs of the statements of sectors, bindings and handle maps (chapter 4): RELEASE SECTOR, PIN SECTOR, ATTACH and
DETACH. -/

namespace Sys2Proof.Machine

open Sys2Proof.Safety

/-! ### A request on the bound sector and its owner's answer -/

/-- With its right and its binding, a request ends in the state its owner answers for the bound sector, with that answer
in the link's buffer. -/
theorem next_serveBound_eq {s : State} {l : Link} {k : SectorId} {tag : Byte} {a : Answer} (kind : ReqKind)
    (owner : SectorId → State → Answer) (h : (s.rights l).allow (rightNeeded kind) = true) (hb : BoundTo s l k)
    (ha : owner k s = a) :
    (Host.Outcome.next (s.serveBound kind l tag owner) : Host.Outcome State Fault Refusal) =
      .next (a.state.putResponse l (reply kind tag a.status a.body)) := by
  rw [serveBound_bound tag owner h hb, ha]

/-! ### Bytes of sectors, links and handles -/

/-- A sector's byte is its number. -/
@[simp] theorem toNat_sectorByte (k : SectorId) : (BitVec.ofNat 8 (sectorNo k)).toNat = sectorNo k := by
  cases k <;> rfl

/-- A link value is the link's byte, 255 for none. -/
theorem putLink_eq (pin : Option Link) : putLink? pin = [linkByte pin] := by
  rcases pin with _ | _ | _ | _ | _ <;> rfl

/-- The link field of PIN SECTOR reads back every link and none. -/
theorem fieldPin_linkByte (pin : Option Link) : fieldPin (linkByte pin) = some pin := by
  rcases pin with _ | _ | _ | _ | _ <;> rfl

/-- A number above 3 names no link. -/
theorem linkOf_eq_none {n : Nat} (h : 3 < n) : linkOf n = none := by
  obtain ⟨m, rfl⟩ := Nat.exists_eq_add_of_le' h
  rfl

/-- A link field above 3 other than 255 is out of range. -/
theorem fieldPin_eq_none {b : Byte} (h : 3 < b.toNat) (hb : b ≠ 255) : fieldPin b = none := by
  rw [fieldPin, if_neg hb, linkOf_eq_none h]
  rfl

/-- A handle byte of 1 to 127 names a handle. -/
theorem handleOk_of_mem {n : Nat} (h : 1 ≤ n) (h' : n ≤ 127) : handleOk n = true :=
  decide_eq_true ⟨h, h'⟩

/-- Any other handle byte names none. -/
theorem handleOk_of_not_mem {n : Nat} (h : n = 0 ∨ 127 < n) : handleOk n = false := by
  refine decide_eq_false ?_
  simp only [maxHandle]
  omega

/-! ### RELEASE SECTOR (R58) -/

/-- The moves to a sector are counted over the records in use. -/
theorem movesTo_eq_countP (s : State) (t : SectorId) :
    s.movesTo t = allRecords.countP fun i => (s.occupant i).any fun o => o.attachment.movesTo t := by
  refine List.countP_congr fun i _ => ?_
  cases s.occupant i <;> rfl

/-- RELEASE SECTOR carries no body. -/
theorem releaseSectorAnswer_of_body {body : List Byte} (k : SectorId) (s : State) (h : body ≠ []) :
    releaseSectorAnswer body k s = refuse s .range [] := by
  cases body with
  | nil => exact absurd rfl h
  | cons => rfl

/-- RELEASE SECTOR ends the binding and answers the sector and the moves cancelled. -/
theorem releaseSectorAnswer_nil (k : SectorId) (s : State) :
    releaseSectorAnswer [] k s =
      { state := s.releaseBinding k
        status := .ok
        body := [BitVec.ofNat 8 (sectorNo k), BitVec.ofNat 8 (allRecords.countP fun i =>
          (s.occupant i).any fun o => o.attachment.movesTo k)] } := by
  rw [← movesTo_eq_countP]
  rfl

/-! ### PIN SECTOR (R60) -/

/-- A body that is not a sector and a link is refused. -/
theorem pinSectorAnswer_of_length {body : List Byte} (s : State) (h : body.length ≠ 2) :
    pinSectorAnswer body s = refuse s .range [] := by
  unfold pinSectorAnswer
  split
  · exact absurd rfl h
  · rfl

/-- A number that names no sector is refused. -/
theorem pinSectorAnswer_of_noSector {kb : Byte} (lb : Byte) (s : State) (h : 2 < kb.toNat) :
    pinSectorAnswer [kb, lb] s = refuse s .range [] := by
  simp only [pinSectorAnswer, sectorOf_eq_none h]

/-- A link field out of range is refused. -/
theorem pinSectorAnswer_of_noLink (kb : Byte) {lb : Byte} (s : State) (h : 3 < lb.toNat) (hb : lb ≠ 255) :
    pinSectorAnswer [kb, lb] s = refuse s .range [] := by
  rw [pinSectorAnswer, fieldPin_eq_none h hb]
  cases sectorOf kb.toNat <;> rfl

/-- A pin ends a binding exactly when it names a link and the sector is bound to another. -/
theorem pinEnds_iff {s : State} {k : SectorId} {pin : Option Link} :
    pinEnds s k pin = true ↔ ∃ p j, pin = some p ∧ (s.sector k).state.link? = some j ∧ p ≠ j := by
  cases pin with
  | none => simp [pinEnds]
  | some p => cases hj : (s.sector k).state.link? <;> simp [pinEnds, hj]

/-- The pin is stored, and it ends the binding or leaves it. -/
theorem pinSectorAnswer_of_sector (s : State) (k : SectorId) (pin : Option Link) :
    pinSectorAnswer [BitVec.ofNat 8 (sectorNo k), linkByte pin] s =
      let pinned := s.setPolicy { s.policy with pins := s.policy.pins.set k pin }
      { state := if pinEnds s k pin = true then pinned.releaseBinding k else pinned
        status := .ok
        body := [BitVec.ofNat 8 (sectorNo k), linkByte pin, BitVec.ofNat 8 (pinEnds s k pin).toNat] } := by
  simp only [pinSectorAnswer, toNat_sectorByte, sectorOf_sectorNo, fieldPin_linkByte, putLink_eq]
  rfl

/-- A pin that ends the binding releases the sector. -/
theorem pinSectorAnswer_of_ends {s : State} {k : SectorId} {pin : Option Link} (h : pinEnds s k pin = true) :
    pinSectorAnswer [BitVec.ofNat 8 (sectorNo k), linkByte pin] s =
      { state := (s.setPolicy { s.policy with pins := s.policy.pins.set k pin }).releaseBinding k
        status := .ok
        body := [BitVec.ofNat 8 (sectorNo k), linkByte pin, 1] } := by
  rw [pinSectorAnswer_of_sector, h]
  rfl

/-- A pin that ends no binding is stored and nothing else. -/
theorem pinSectorAnswer_of_not_ends {s : State} {k : SectorId} {pin : Option Link} (h : pinEnds s k pin = false) :
    pinSectorAnswer [BitVec.ofNat 8 (sectorNo k), linkByte pin] s =
      { state := s.setPolicy { s.policy with pins := s.policy.pins.set k pin }
        status := .ok
        body := [BitVec.ofNat 8 (sectorNo k), linkByte pin, 0] } := by
  rw [pinSectorAnswer_of_sector, h]
  rfl

/-- Settles O43: the two owners' answers case by case; what `releaseBinding` does is `released_releaseBinding`. -/
theorem releaseAndPinEndBindings : Obligations.ReleaseAndPinEndBindings := by
  intro l tag s
  refine ⟨fun hr k hb => ⟨fun body hbody => ?_, s.releaseBinding k, released_releaseBinding s k, ?_⟩,
    fun hr => ⟨fun body hbody => ?_, fun k pin => ?_⟩⟩
  · exact next_serveBound_eq .releaseSector (releaseSectorAnswer _) hr hb (releaseSectorAnswer_of_body k s hbody)
  · exact next_serveBound_eq .releaseSector (releaseSectorAnswer _) hr hb (releaseSectorAnswer_nil k s)
  · have hrange : pinSectorAnswer body s = refuse s .range [] := by
      obtain hlen | ⟨kb, lb, rfl, hk | ⟨hl, hl255⟩⟩ := hbody
      · exact pinSectorAnswer_of_length s hlen
      · exact pinSectorAnswer_of_noSector lb s hk
      · exact pinSectorAnswer_of_noLink kb s hl hl255
    exact next_serve_eq .pinSector (pinSectorAnswer _) hr hrange
  · intro pinByte c pinned
    have hpin : pinByte = linkByte pin := by cases pin <;> rfl
    simp only [c, hpin]
    refine ⟨fun hends => ⟨pinned.releaseBinding k, released_releaseBinding pinned k, ?_⟩, fun hkeeps => ?_⟩
    · exact next_serve_eq .pinSector (pinSectorAnswer _) hr (pinSectorAnswer_of_ends (pinEnds_iff.mpr hends))
    · have hstays : pinEnds s k pin = false := Bool.eq_false_iff.mpr fun hends => by
        obtain ⟨p, j, hp, hj, hne⟩ := pinEnds_iff.mp hends
        exact hne (hkeeps p j hp hj)
      exact next_serve_eq .pinSector (pinSectorAnswer _) hr (pinSectorAnswer_of_not_ends hstays)

/-! ### ATTACH (R62, R63) -/

/-- A body that is not an id and a handle is refused. -/
theorem attachAnswer_of_length {body : List Byte} (k : SectorId) (s : State) (h : body.length ≠ 4) :
    attachAnswer body k s = refuse s .range [] := by
  unfold attachAnswer
  split
  · exact absurd rfl h
  · rfl

section Attach

variable {s : State} {k : SectorId} {i0 i1 i2 h : Byte}

/-- A handle out of range is refused before anything is looked up. -/
theorem attachAnswer_of_badHandle (hh : handleOk h.toNat = false) :
    attachAnswer [i0, i1, i2, h] k s = refuse s .range [] := by
  simp only [attachAnswer, hh, Bool.false_eq_true, if_false]

/-- ATTACH of an id no record holds is refused. -/
theorem attachAnswer_of_unused (hh : handleOk h.toNat = true) (hu : IdUnused s (field24 i0 i1 i2)) :
    attachAnswer [i0, i1, i2, h] k s = refuse s .noSubscriber [] := by
  simp only [attachAnswer, hh, if_true, findById_of_unused hu]

variable {i : RecIdx} {o : Occupant}

/-- A record that is bound is refused with its home and handle. -/
theorem attachAnswer_of_place {home : SectorId} {n : Nat} (hh : handleOk h.toNat = true) (hi : Holds s i o)
    (hid : o.id = field24 i0 i1 i2) (hp : o.attachment.place? = some (home, n)) :
    attachAnswer [i0, i1, i2, h] k s =
      refuse s .boundElsewhere [BitVec.ofNat 8 (sectorNo home), BitVec.ofNat 8 n] := by
  simp only [attachAnswer, hh, if_true, ← hid, findById_of_holds hi, hp]
  rfl

/-- A handle that the map holds is refused with the index of its record. -/
theorem attachAnswer_of_handleEntry {e : MapEntry} (hh : handleOk h.toNat = true) (hi : Holds s i o)
    (hid : o.id = field24 i0 i1 i2) (hun : o.attachment = .unbound) (he : s.handleEntry k h.toNat = some e) :
    attachAnswer [i0, i1, i2, h] k s = refuse s .handleInUse [BitVec.ofNat 8 e.index.val] := by
  simp only [attachAnswer, hh, if_true, ← hid, findById_of_holds hi, hun, Attachment.place?, he]
  rfl

/-- An ADMITTED record joins the sector under a free handle. -/
theorem attachAnswer_of_free (hh : handleOk h.toNat = true) (hi : Holds s i o) (hid : o.id = field24 i0 i1 i2)
    (hun : o.attachment = .unbound) (hfree : ∀ e ∈ (s.sector k).map, e.handle ≠ h.toNat) :
    attachAnswer [i0, i1, i2, h] k s = attachTaken s k h.toNat i o := by
  simp only [attachAnswer, hh, if_true, ← hid, findById_of_holds hi, hun, Attachment.place?, handleEntry_none hfree]

end Attach

/-- Settles O44: the owner's answer in the order of R62's checks, and the map that `mapInsert` makes. -/
theorem attachBindsTheRecord : Obligations.AttachBindsTheRecord := by
  intro l k tag s hr hb
  refine ⟨fun body hlen => ?_, fun i0 i1 i2 h => ⟨fun hbad => ?_, fun h1 h127 => ?_⟩⟩
  · exact next_serveBound_eq .attach (attachAnswer _) hr hb (attachAnswer_of_length k s hlen)
  · exact next_serveBound_eq .attach (attachAnswer _) hr hb (attachAnswer_of_badHandle (handleOk_of_not_mem hbad))
  · have hh : handleOk h.toNat = true := handleOk_of_mem h1 h127
    refine ⟨fun hu => ?_, fun i o hi hid => ⟨fun home n hp => ?_, fun hun => ⟨fun e he => ?_, fun hfree => ?_⟩⟩⟩
    · exact next_serveBound_eq .attach (attachAnswer _) hr hb (attachAnswer_of_unused hh hu)
    · exact next_serveBound_eq .attach (attachAnswer _) hr hb (attachAnswer_of_place hh hi hid hp)
    · exact next_serveBound_eq .attach (attachAnswer _) hr hb (attachAnswer_of_handleEntry hh hi hid hun he)
    · exact ⟨(attachTaken s k h.toNat i o).state,
        mapInsert { handle := h.toNat, index := i, generation := (s.record i).generation } (s.sector k).map,
        next_serveBound_eq .attach (attachAnswer _) hr hb (attachAnswer_of_free hh hi hid hun hfree),
        fun _ => mem_mapInsert.trans Or.comm,
        rfl⟩

/-! ### A sector that a record leaves (R68) -/

/-- The ring closes up over the place of the record that leaves. -/
theorem ring_leave {v : Sector} (h : Nat) {i : RecIdx} {a b : List RecIdx} (hring : v.ring = a ++ i :: b)
    (ha : i ∉ a) : (v.leave h i).ring = a ++ b := by
  rw [Sector.leave, hring, List.erase_append_right _ ha, List.erase_cons_head]

/-- A head on the record that leaves moves to the record after it round the ring, and any other head stays. -/
theorem head_leave {v : Sector} (h : Nat) {i : RecIdx} {a b : List RecIdx} (hring : v.ring = a ++ i :: b)
    (ha : i ∉ a) (hb : i ∉ b) (dir : Dir) :
    (v.leave h i).head dir = if v.head dir = some i then (b ++ a).head? else v.head dir := by
  rw [← headAfterLeave_append ha hb, ← hring]
  cases dir <;> rfl

/-! ### DETACH (R64) -/

/-- A body that is not a handle is refused. -/
theorem detachAnswer_of_length {body : List Byte} (k : SectorId) (s : State) (h : body.length ≠ 1) :
    detachAnswer body k s = refuse s .range [] := by
  unfold detachAnswer
  split
  · exact absurd rfl h
  · rfl

section Detach

variable {s : State} {k : SectorId} {h : Byte}

/-- A handle out of range is refused before it is looked up. -/
theorem detachAnswer_of_badHandle (hh : handleOk h.toNat = false) :
    detachAnswer [h] k s = refuse s .range [] := by
  simp only [detachAnswer, hh, Bool.false_eq_true, if_false]

/-- A handle with no record is refused. -/
theorem detachAnswer_of_noRecord (hh : handleOk h.toNat = true) (hl : s.lookup k h.toNat = none) :
    detachAnswer [h] k s = refuse s .noHandle [] := by
  simp only [detachAnswer, hh, if_true, hl]

/-- The record of a handle is detached, and the answer says whether it was MOVING. -/
theorem detachAnswer_of_record {i : RecIdx} {o : Occupant} (hh : handleOk h.toNat = true)
    (hl : s.lookup k h.toNat = some (i, o)) :
    detachAnswer [h] k s =
      { state := (detachTaken s k h.toNat i o).state
        status := .ok
        body := recordBytes s i ++ [if o.attachment.move? = none then 0 else 1] } := by
  have hflag : putFlag o.attachment.move?.isSome = [if o.attachment.move? = none then 0 else 1] := by
    cases o.attachment.move? <;> rfl
  simp only [detachAnswer, hh, if_true, hl, detachTaken, hflag]
  rfl

end Detach

section Detached

variable (s : State) (k : SectorId) (h : Nat) (i : RecIdx) (o : Occupant)

/-- The record is ADMITTED and keeps its generation. -/
theorem record_detachTaken_same :
    (detachTaken s k h i o).state.record i =
      { generation := (s.record i).generation, occupant := some o.detached } := by
  rw [detachTaken, record_congr (voidRecord_table _ i), State.setOccupant, record_setRecord_same,
    record_congr (setSector_table _ k _), cancelMoveOf_generation]

/-- The other records are as they were. -/
theorem record_detachTaken_other {j : RecIdx} (hj : j ≠ i) : (detachTaken s k h i o).state.record j = s.record j := by
  rw [detachTaken, record_congr (voidRecord_table _ i), State.setOccupant, record_setRecord_other _ _ hj,
    record_congr (setSector_table _ k _), cancelMoveOf_record_other s hj]

/-- The record leaves the map and the ring of the link's sector, and no other sector changes. -/
theorem detachTaken_sectors : (detachTaken s k h i o).state.sectors = s.sectors.set k ((s.sector k).leave h i) := by
  rw [detachTaken, voidRecord_sectors, setOccupant_sectors, State.setSector, sector_congr (cancelMoveOf_sectors s i),
    cancelMoveOf_sectors]

/-- The link's sector is as the record's way out leaves it. -/
theorem sector_detachTaken_same : (detachTaken s k h i o).state.sector k = (s.sector k).leave h i := by
  rw [State.sector, detachTaken_sectors, PerSector.get_set_same]

/-- The other sectors are as they were. -/
theorem sector_detachTaken_other {j : SectorId} (hj : j ≠ k) :
    (detachTaken s k h i o).state.sector j = s.sector j := by
  rw [State.sector, detachTaken_sectors, PerSector.get_set_other _ _ hj, State.sector]

/-- The queues are as the end of the record's move leaves them. -/
theorem queue_detachTaken (j : SectorId) : (detachTaken s k h i o).state.queue j = (s.cancelMoveOf i).queue j :=
  rfl

/-- The ports are as the end of the record's move leaves them. -/
theorem port_detachTaken (l : Link) : (detachTaken s k h i o).state.port l = (s.cancelMoveOf i).port l :=
  rfl

/-- No sector's state changes. -/
theorem detachTaken_sectorState (j : SectorId) :
    ((detachTaken s k h i o).state.sector j).state = ((s.cancelMoveOf i).sector j).state := by
  rw [sector_congr (cancelMoveOf_sectors s i)]
  by_cases hj : j = k
  · subst hj; rw [sector_detachTaken_same]; rfl
  · rw [sector_detachTaken_other s k h i o hj]

/-- DETACH reaches no port but by HANDOVER. -/
theorem onlyHandover_detachTaken : OnlyHandover s (detachTaken s k h i o).state := by
  simpa only [OnlyHandover, port_detachTaken, queue_detachTaken, detachTaken_sectorState]
    using onlyHandover_cancelMoveOf s i

/-- DETACH reaches no block but the records, the sectors, the queues, the ports and the void flags. -/
theorem detachTaken_frame :
    (detachTaken s k h i o).state = { s with
      table := (detachTaken s k h i o).state.table, sectors := (detachTaken s k h i o).state.sectors
      queues := (detachTaken s k h i o).state.queues, ports := (detachTaken s k h i o).state.ports
      live := liveVoided (fun _ => isFor i (s.record i).generation) s.live
      next := nextVoided (fun _ => isFor i (s.record i).generation) s.next } := by
  simp only [detachTaken, voidRecord_eq, generation_setOccupant, record_congr (setSector_table _ _ _),
    cancelMoveOf_generation]
  simp [State.setOccupant, State.setRecord, State.setSector]

end Detached

/-- Settles O45: the owner's answer in the order of R64's checks, and the state it leaves, read block by block. -/
theorem detachReturnsToAdmitted : Obligations.DetachReturnsToAdmitted := by
  intro l k tag s hr hb
  refine ⟨fun body hlen => ?_, fun h => ⟨fun hbad => ?_, fun h1 h127 => ?_⟩⟩
  · exact next_serveBound_eq .detach (detachAnswer _) hr hb (detachAnswer_of_length k s hlen)
  · exact next_serveBound_eq .detach (detachAnswer _) hr hb (detachAnswer_of_badHandle (handleOk_of_not_mem hbad))
  · have hh : handleOk h.toNat = true := handleOk_of_mem h1 h127
    refine ⟨fun hl => ?_, fun i o hl => ?_⟩
    · exact next_serveBound_eq .detach (detachAnswer _) hr hb (detachAnswer_of_noRecord hh hl)
    · obtain ⟨ho, -⟩ := lookup_some hl
      have hsector := sector_detachTaken_same s k h.toNat i o
      refine ⟨(detachTaken s k h.toNat i o).state,
        next_serveBound_eq .detach (detachAnswer _) hr hb (detachAnswer_of_record hh hl),
        record_detachTaken_same s k _ i o,
        fun j hj => record_detachTaken_other s k _ i o hj,
        fun j hj => sector_detachTaken_other s k _ i o hj,
        ?_, ?_, ?_, ?_, ?_,
        cancelMoveOf_queue ho,
        onlyHandover_detachTaken s k _ i o,
        detachTaken_frame s k _ i o⟩
      · rw [hsector]; exact fun e => mem_mapErase
      · rw [hsector]; rfl
      · rw [hsector]; rfl
      · rw [hsector]; rfl
      · rw [hsector]
        exact fun a b hring ha hb => ⟨ring_leave h.toNat hring ha, head_leave h.toNat hring ha hb⟩

end Sys2Proof.Machine
end

section
/-! Proofs of the statements of demand windows and sector presence (chapter 5): DEMAND BATCH and presence evaluation. -/

namespace Sys2Proof.Machine

open Sys2Proof.Safety

/-! ### DEMAND BATCH: one entry (R76, R77) -/

/-- A handle leads through its map entry to a record in use. -/
theorem lookup_eq_bind (s : State) (k : SectorId) (h : Nat) :
    s.lookup k h = (s.handleEntry k h).bind fun e => (s.occupant e.index).map fun o => (e.index, o) := by
  unfold State.lookup State.handleEntry
  split
  next e he => rw [he]; rfl
  next he => rw [he]; rfl

/-- The record an entry's handle names in a sector's map. -/
def State.named (s : State) (k : SectorId) (r : ReportEntry) : Option RecIdx := (s.lookup k r.handle).map Prod.fst

/-- The record named is the one of the handle's map entry, if it is in use. -/
theorem named_eq_bind (s : State) (k : SectorId) (r : ReportEntry) :
    s.named k r =
      (s.handleEntry k r.handle).bind fun e => if (s.occupant e.index).isSome then some e.index else none := by
  rw [State.named, lookup_eq_bind, Option.map_bind]
  congr 1
  funext e
  cases ho : s.occupant e.index <;> simp [ho]

/-- The records named depend on the sector's map and on which records are in use. -/
theorem named_congr {s u : State} (k : SectorId) (hmap : (u.sector k).map = (s.sector k).map)
    (hocc : ∀ i, (u.occupant i).isSome = (s.occupant i).isSome) (r : ReportEntry) : u.named k r = s.named k r := by
  have hentry : u.handleEntry k r.handle = s.handleEntry k r.handle := by
    unfold State.handleEntry
    rw [hmap]
  simp only [named_eq_bind, hentry, hocc]

/-- An entry that names a record is accepted: the record takes its report. -/
theorem reportOne_of_named {u : State} {k : SectorId} {r : ReportEntry} {i : RecIdx} (h : u.named k r = some i)
    (c : BatchCount) :
    ∃ o, u.occupant i = some o ∧ reportOne k (u, c) r =
      (u.setOccupant i (some (o.report u.policy.e r)),
        { c with seen := c.seen + 1, accepted := c.accepted + 1
                 clamped := if r.clamped u.policy.e then c.clamped + 1 else c.clamped }) := by
  obtain ⟨⟨j, o⟩, hl, rfl⟩ := Option.map_eq_some_iff.mp h
  exact ⟨o, (lookup_some hl).1, by simp only [reportOne, hl]⟩

/-- An entry that names no record is rejected. -/
theorem reportOne_of_unnamed {u : State} {k : SectorId} {r : ReportEntry} (h : u.named k r = none) (c : BatchCount) :
    reportOne k (u, c) r =
      (u, { c with seen := c.seen + 1, rejected := c.rejected + 1
                   first := c.first.orElse fun _ => some c.seen }) := by
  simp only [reportOne, Option.map_eq_none_iff.mp h]

/-! ### DEMAND BATCH: the entries of a batch (R77, R78) -/

/-- The entry of a batch that stands for a record: the last that names it. -/
def State.standing (s : State) (k : SectorId) (entries : List ReportEntry) (i : RecIdx) : Option ReportEntry :=
  (entries.filter fun r => decide (s.named k r = some i)).getLast?

/-- What a batch makes of a record in use. -/
def State.afterBatch (s : State) (k : SectorId) (entries : List ReportEntry) (i : RecIdx) (o : Occupant) : Occupant :=
  match s.standing k entries i with
  | some r => o.report s.policy.e r
  | none => o

/-- What the answer to a batch counts (R78). -/
def State.batchCount (s : State) (k : SectorId) (entries : List ReportEntry) : BatchCount where
  seen := entries.length
  accepted := entries.countP fun r => (s.named k r).isSome
  rejected := entries.countP fun r => (s.named k r).isNone
  clamped := entries.countP fun r => (s.named k r).isSome && r.clamped s.policy.e
  first := entries.findIdx? fun r => (s.named k r).isNone

/-- One more entry stands for the record it names, and for no other. -/
theorem standing_concat (s : State) (k : SectorId) (entries : List ReportEntry) (r : ReportEntry) (i : RecIdx) :
    s.standing k (entries ++ [r]) i = if s.named k r = some i then some r else s.standing k entries i := by
  unfold State.standing
  rw [List.filter_append, List.filter_singleton]
  by_cases h : s.named k r = some i
  · simp [h]
  · simp [h]

/-- A later report replaces an earlier one (R77). -/
theorem report_report (e : Nat) (q r : ReportEntry) (o : Occupant) : (o.report e q).report e r = o.report e r := rfl

/-- One more entry replaces the report of the record it names. -/
theorem afterBatch_concat_same {s : State} {k : SectorId} {entries : List ReportEntry} {r : ReportEntry} {i : RecIdx}
    (h : s.named k r = some i) (o : Occupant) :
    s.afterBatch k (entries ++ [r]) i o = (s.afterBatch k entries i o).report s.policy.e r := by
  simp only [State.afterBatch, standing_concat, if_pos h]
  split
  · rw [report_report]
  · rfl

/-- One more entry leaves the records it does not name as the others made them. -/
theorem afterBatch_concat_other {s : State} {k : SectorId} {entries : List ReportEntry} {r : ReportEntry} {i : RecIdx}
    (h : s.named k r ≠ some i) (o : Occupant) :
    s.afterBatch k (entries ++ [r]) i o = s.afterBatch k entries i o := by
  simp only [State.afterBatch, standing_concat, if_neg h]

/-- An accepted entry is counted so. -/
theorem batchCount_concat_named {s : State} {k : SectorId} {r : ReportEntry} {i : RecIdx} (entries : List ReportEntry)
    (h : s.named k r = some i) :
    s.batchCount k (entries ++ [r]) =
      { s.batchCount k entries with
        seen := (s.batchCount k entries).seen + 1
        accepted := (s.batchCount k entries).accepted + 1
        clamped := if r.clamped s.policy.e then (s.batchCount k entries).clamped + 1
          else (s.batchCount k entries).clamped } := by
  simp only [State.batchCount, List.length_append, List.countP_append, List.findIdx?_append]
  cases hc : r.clamped s.policy.e <;> simp [h, hc]

/-- A rejected entry is counted so; the first one's place is kept. -/
theorem batchCount_concat_unnamed {s : State} {k : SectorId} {r : ReportEntry} (entries : List ReportEntry)
    (h : s.named k r = none) :
    s.batchCount k (entries ++ [r]) =
      { s.batchCount k entries with
        seen := (s.batchCount k entries).seen + 1
        rejected := (s.batchCount k entries).rejected + 1
        first := (s.batchCount k entries).first.orElse fun _ => some (s.batchCount k entries).seen } := by
  simp only [State.batchCount, List.length_append, List.countP_append, List.findIdx?_append]
  simp [h]

/-- `u` is `s` after the reports of a batch: in each record in use the entry that stands for it, and nothing else. -/
structure Reported (s : State) (k : SectorId) (entries : List ReportEntry) (u : State) : Prop where
  generation : ∀ i, (u.record i).generation = (s.record i).generation
  occupant : ∀ i, u.occupant i = (s.occupant i).map (s.afterBatch k entries i)
  frame : u = { s with table := u.table }

/-- Without an entry nothing changes. -/
theorem Reported.nil (s : State) (k : SectorId) : Reported s k [] s where
  generation _ := rfl
  occupant i := by cases s.occupant i <;> rfl
  frame := rfl

section ReportedFrame

variable {s u : State} {k : SectorId} {entries : List ReportEntry}

/-- Reports leave the policy alone. -/
theorem Reported.policy (h : Reported s k entries u) : u.policy = s.policy := by rw [h.frame]

/-- Reports leave the sectors alone. -/
theorem Reported.sectors (h : Reported s k entries u) : u.sectors = s.sectors := by rw [h.frame]

/-- Reports do not change which record a handle names. -/
theorem Reported.named (h : Reported s k entries u) (r : ReportEntry) : u.named k r = s.named k r :=
  named_congr k (by rw [sector_congr h.sectors]) (fun i => by rw [h.occupant, Option.isSome_map]) r

/-- An entry that names a record reports it. -/
theorem Reported.concat_named {r : ReportEntry} {i : RecIdx} {o : Occupant} (h : Reported s k entries u)
    (hr : s.named k r = some i) (ho : u.occupant i = some o) :
    Reported s k (entries ++ [r]) (u.setOccupant i (some (o.report s.policy.e r))) where
  generation j := by rw [generation_setOccupant, h.generation]
  occupant j := by
    by_cases hj : j = i
    · subst hj
      obtain ⟨q, hq, rfl⟩ := Option.map_eq_some_iff.mp ((h.occupant j).symm.trans ho)
      rw [occupant_setOccupant_same, hq, Option.map_some, afterBatch_concat_same hr]
    · have hne : s.named k r ≠ some j := fun e => hj (Option.some.inj (e.symm.trans hr))
      rw [occupant_setOccupant_other _ _ hj, h.occupant]
      exact congrArg (Option.map · _) (funext fun q => (afterBatch_concat_other hne q).symm)
  frame := by
    change { u with table := _ } = _
    rw [h.frame]
    rfl

/-- An entry that names no record reports none. -/
theorem Reported.concat_unnamed {r : ReportEntry} (h : Reported s k entries u) (hr : s.named k r = none) :
    Reported s k (entries ++ [r]) u where
  generation := h.generation
  occupant j := by
    have hne : s.named k r ≠ some j := by rw [hr]; exact nofun
    rw [h.occupant]
    exact congrArg (Option.map · _) (funext fun q => (afterBatch_concat_other hne q).symm)
  frame := h.frame

end ReportedFrame

/-- The entries of a batch, processed in order, make their reports and are counted. -/
theorem foldl_reportOne (s : State) (k : SectorId) (entries : List ReportEntry) :
    ∃ u, Reported s k entries u ∧
      entries.foldl (reportOne k) (s, { seen := 0, accepted := 0, rejected := 0, clamped := 0, first := none }) =
        (u, s.batchCount k entries) := by
  induction entries using List.reverseRecOn with
  | nil => exact ⟨s, .nil s k, rfl⟩
  | append_singleton entries r ih =>
    obtain ⟨u, hu, hfold⟩ := ih
    rw [List.foldl_append, hfold, List.foldl_cons, List.foldl_nil]
    rcases hr : s.named k r with _ | i
    · exact ⟨u, hu.concat_unnamed hr, by
        rw [reportOne_of_unnamed ((hu.named r).trans hr), batchCount_concat_unnamed entries hr]⟩
    · obtain ⟨o, ho, hone⟩ := reportOne_of_named ((hu.named r).trans hr) (s.batchCount k entries)
      rw [hu.policy] at hone
      exact ⟨_, hu.concat_named hr ho, by rw [hone, batchCount_concat_named entries hr]⟩

/-! ### DEMAND BATCH: the answer (R74 to R78) -/

/-- The sector's flag is set before the entries are processed (R75). -/
def State.flagged (s : State) (k : SectorId) : State := s.setSector k { s.sector k with batchSeen := true }

/-- The flag does not change which record a handle names. -/
theorem named_flagged (s : State) (k : SectorId) : (s.flagged k).named k = s.named k :=
  funext <| named_congr k (by rw [State.flagged, sector_setSector_same]) fun _ => rfl

/-- The flag does not change what the answer counts. -/
theorem batchCount_flagged (s : State) (k : SectorId) (entries : List ReportEntry) :
    (s.flagged k).batchCount k entries = s.batchCount k entries := by
  simp only [State.batchCount, named_flagged]
  rfl

/-- The flag does not change what a batch makes of a record. -/
theorem afterBatch_flagged (s : State) (k : SectorId) (entries : List ReportEntry) (i : RecIdx) (o : Occupant) :
    (s.flagged k).afterBatch k entries i o = s.afterBatch k entries i o := by
  simp only [State.afterBatch, State.standing, named_flagged]
  rfl

/-- A record that no entry names is left as it is. -/
theorem afterBatch_of_none {s : State} {k : SectorId} {entries : List ReportEntry} {i : RecIdx}
    (h : s.standing k entries i = none) (o : Occupant) : s.afterBatch k entries i o = o := by
  simp only [State.afterBatch, h]

/-- A record takes the report of the entry that stands for it. -/
theorem afterBatch_of_some {s : State} {k : SectorId} {entries : List ReportEntry} {i : RecIdx} {r : ReportEntry}
    (h : s.standing k entries i = some r) (o : Occupant) : s.afterBatch k entries i o = o.report s.policy.e r := by
  simp only [State.afterBatch, h]

/-- A count that its entries do not match is refused, and so is a body without a count (R74). -/
theorem demandBatchAnswer_of_mismatch {body : List Byte} (k : SectorId) (s : State)
    (h : body = [] ∨ ∃ (c : Byte) (rest : List Byte), body = c :: rest ∧
      (7 < c.toNat ∨ rest.length ≠ 8 * c.toNat)) :
    demandBatchAnswer body k s = refuse s .range [] := by
  obtain rfl | ⟨c, rest, rfl, hc⟩ := h
  · rfl
  · rcases he : reportEntries rest with _ | entries
    · simp only [demandBatchAnswer, he]
    · have hlen := length_of_reportEntries he
      have hbad : 7 < c.toNat ∨ entries.length ≠ c.toNat := by omega
      simp only [demandBatchAnswer, he, if_pos hbad]

section Entries

variable {entries : List ReportEntry} (k : SectorId) {s : State}

/-- A batch whose count its entries match passes R74's check, and the window decides. -/
theorem demandBatchAnswer_of_entries (hlen : entries.length ≤ 7) (hfit : ∀ r ∈ entries, entryFits r) :
    demandBatchAnswer (BitVec.ofNat 8 entries.length :: entries.flatMap entryBytes) k s =
      if s.windowOpen then
        let out := entries.foldl (reportOne k)
          (s.flagged k, { seen := 0, accepted := 0, rejected := 0, clamped := 0, first := none })
        { state := out.1, status := out.2.status, body := out.2.body }
      else refuse s .windowClosed [] := by
  have hcount : (BitVec.ofNat 8 entries.length : Byte).toNat = entries.length := by
    rw [BitVec.toNat_ofNat]
    exact Nat.mod_eq_of_lt (by omega)
  have hok : ¬(7 < entries.length ∨ entries.length ≠ entries.length) := by omega
  simp only [demandBatchAnswer, reportEntries_entryBytes hfit, hcount, if_neg hok]
  rfl

/-- Outside the demand window a batch is refused (R73). -/
theorem demandBatchAnswer_of_closed (hlen : entries.length ≤ 7) (hfit : ∀ r ∈ entries, entryFits r)
    (hw : s.windowOpen = false) :
    demandBatchAnswer (BitVec.ofNat 8 entries.length :: entries.flatMap entryBytes) k s =
      refuse s .windowClosed [] := by
  rw [demandBatchAnswer_of_entries k hlen hfit, hw]
  rfl

/-- In the demand window a batch is taken: its sector is flagged, its entries report, and the answer counts them. -/
theorem demandBatchAnswer_of_open (hlen : entries.length ≤ 7) (hfit : ∀ r ∈ entries, entryFits r)
    (hw : s.windowOpen = true) :
    ∃ u, Reported (s.flagged k) k entries u ∧
      demandBatchAnswer (BitVec.ofNat 8 entries.length :: entries.flatMap entryBytes) k s =
        { state := u, status := (s.batchCount k entries).status, body := (s.batchCount k entries).body } := by
  obtain ⟨u, hu, hfold⟩ := foldl_reportOne (s.flagged k) k entries
  refine ⟨u, hu, ?_⟩
  rw [demandBatchAnswer_of_entries k hlen hfit, hw, hfold, batchCount_flagged]
  rfl

end Entries

/-- Settles O46: the owner's answer by the count, the window and the entries; what the entries do is `Reported`. -/
theorem demandBatchReports : Obligations.DemandBatchReports := by
  intro l k tag s hr hb
  refine ⟨fun body hbody => ?_, fun entries hlen hfit => ⟨fun hclosed => ?_, fun hopen => ?_⟩⟩
  · exact next_serveBound_eq .demandBatch (demandBatchAnswer _) hr hb (demandBatchAnswer_of_mismatch k s hbody)
  · exact next_serveBound_eq .demandBatch (demandBatchAnswer _) hr hb (demandBatchAnswer_of_closed k hlen hfit hclosed)
  · obtain ⟨u, hu, hanswer⟩ := demandBatchAnswer_of_open k hlen hfit hopen
    have hoccupant : ∀ i, u.occupant i = (s.occupant i).map (s.afterBatch k entries i) := fun i =>
      (hu.occupant i).trans (congrArg (Option.map · _) (funext (afterBatch_flagged s k entries i)))
    refine ⟨u, next_serveBound_eq .demandBatch (demandBatchAnswer _) hr hb hanswer, ?_, fun j hj => ?_,
      hu.generation, fun i hi => ?_, fun i o ho => ⟨fun hnone => ?_, fun r hsome => ?_⟩, ?_⟩
    · rw [sector_congr hu.sectors, State.flagged, sector_setSector_same]
    · rw [sector_congr hu.sectors, State.flagged, sector_setSector_other _ _ hj]
    · rw [hoccupant, hi, Option.map_none]
    · rw [hoccupant, ho, Option.map_some, afterBatch_of_none hnone]
    · rw [hoccupant, ho, Option.map_some, afterBatch_of_some hsome]
      rfl
    · rw [hu.frame]
      rfl

/-! ### Presence evaluation: one sector (R79, R80) -/

/-- A sector after its evaluation, M being the silent limit in force: one with no bound link is left alone (R79). -/
def Sector.evaluated (m : Nat) (v : Sector) : Sector :=
  match v.state.link? with
  | none => v
  | some _ => { v with state := v.stateAfter m, missed := v.missedAfter, batchSeen := false }

/-- Whether the evaluation makes a PRESENT sector SILENT. -/
def Sector.fallsSilent (m : Nat) (v : Sector) : Bool := v.state.isPresent && !(v.stateAfter m).isPresent

/-- Whether the evaluation changes the sector's state. -/
def Sector.changesState (m : Nat) (v : Sector) : Bool := decide (v.stateAfter m ≠ v.state)

/-- A sector without a bound link keeps its state. -/
theorem stateAfter_of_noLink (m : Nat) {v : Sector} (h : v.state.link? = none) : v.stateAfter m = v.state := by
  unfold Sector.stateAfter
  rcases hs : v.state with _ | _ | l | l
  · rfl
  · rfl
  · rw [hs] at h; cases h
  · rw [hs] at h; cases h

/-- A bound sector with a batch seen is PRESENT; without one, its count at M or above makes it SILENT (R79). -/
theorem stateAfter_of_link (m : Nat) {v : Sector} {l : Link} (h : v.state.link? = some l) :
    v.stateAfter m =
      if v.batchSeen = true then .present l else if m ≤ v.missedAfter then .silent l else v.state := by
  unfold Sector.stateAfter
  rcases hs : v.state with _ | _ | j | j
  · rw [hs] at h; cases h
  · rw [hs] at h; cases h
  · rw [hs] at h; cases h; simp
  · rw [hs] at h; cases h; rfl

/-- A sector without a bound link is left alone. -/
theorem evaluated_of_noLink (m : Nat) {v : Sector} (h : v.state.link? = none) : v.evaluated m = v := by
  simp only [Sector.evaluated, h]

/-- A bound sector's state and count follow its flag, which is cleared (R79). -/
theorem evaluated_of_link (m : Nat) {v : Sector} {l : Link} (h : v.state.link? = some l) :
    v.evaluated m = { v with state := v.stateAfter m, missed := v.missedAfter, batchSeen := false } := by
  simp only [Sector.evaluated, h]

/-- The state of an evaluated sector. -/
theorem evaluated_state (m : Nat) (v : Sector) : (v.evaluated m).state = v.stateAfter m := by
  rcases h : v.state.link? with _ | l
  · rw [evaluated_of_noLink m h, stateAfter_of_noLink m h]
  · rw [evaluated_of_link m h]

/-- A sector whose state stays does not fall silent. -/
theorem fallsSilent_of_same {m : Nat} {v : Sector} (h : v.stateAfter m = v.state) : v.fallsSilent m = false := by
  rw [Sector.fallsSilent, h, Bool.and_not_self]

/-- A sector falls silent exactly when it was PRESENT and is not afterwards. -/
theorem fallsSilent_iff {m : Nat} {v : Sector} :
    v.fallsSilent m = true ↔ v.state.isPresent = true ∧ (v.evaluated m).state.isPresent = false := by
  rw [Sector.fallsSilent, Bool.and_eq_true, Bool.not_eq_true', evaluated_state]

/-- The evaluation keeps the bound link. -/
theorem link_evaluated (m : Nat) (v : Sector) : (v.evaluated m).state.link? = v.state.link? := by
  rcases h : v.state.link? with _ | l
  · rw [evaluated_of_noLink m h, h]
  · rw [evaluated_state, stateAfter_of_link m h]
    split
    · rfl
    · split
      · rfl
      · exact h

/-- Replacing a sector by itself changes nothing. -/
theorem setSector_self (s : State) (k : SectorId) : s.setSector k (s.sector k) = s := by
  cases k <;> rfl

/-- The evaluation of a sector in its parts: the sector, the cancelling of moves if it falls silent, and the raising of
SECTOR STATE if its state changes. -/
theorem evaluatePresence_eq (s : State) (k : SectorId) :
    s.evaluatePresence k =
      let t := s.setSector k ((s.sector k).evaluated s.policy.m)
      let u := if (s.sector k).fallsSilent s.policy.m = true then t.cancelMovesTo k else t
      if (s.sector k).changesState s.policy.m = true then u.raiseSectorState else u := by
  rcases evaluatePresence_cases s k with ⟨hl, he⟩ | ⟨l, hl, hcases⟩
  · have hsame := stateAfter_of_noLink s.policy.m hl
    rw [he, evaluated_of_noLink _ hl]
    simp [fallsSilent_of_same hsame, Sector.changesState, hsame, setSector_self]
  · rw [evaluated_of_link _ hl]
    rcases hcases with ⟨hsame, he⟩ | ⟨hafter, hbefore, he⟩ | ⟨hafter, hbefore, he⟩
    · rw [he]
      simp [fallsSilent_of_same hsame, Sector.changesState, hsame]
    · rw [he]
      simp [Sector.fallsSilent, Sector.changesState, hafter, hbefore, SectorState.isPresent]
    · rw [he]
      simp [Sector.fallsSilent, Sector.changesState, hafter, hbefore, SectorState.isPresent]

/-! ### Presence evaluation: the blocks it reaches -/

/-- The attachment with its move ended, if the move's target is one of the sectors picked (R149). -/
def Attachment.settleIf (f : SectorId → Bool) : Attachment → Attachment
  | .unbound => .unbound
  | .active k h => .active k h
  | .moving k h t n => if f t = true then .active k h else .moving k h t n

/-- The occupant with its move ended, if the move's target is one of the sectors picked. -/
def Occupant.settleIf (f : SectorId → Bool) (o : Occupant) : Occupant :=
  { o with attachment := o.attachment.settleIf f }

/-- With no sector picked no move ends. -/
theorem settleIf_false (o : Occupant) : (o.settleIf fun _ => false) = o := by
  unfold Occupant.settleIf
  rcases ha : o.attachment with _ | ⟨k, h⟩ | ⟨k, h, t, n⟩ <;> cases o <;> cases ha <;> rfl

/-- Ending the moves to some sectors and then to others ends the moves to both. -/
theorem settleIf_settleIf (f g : SectorId → Bool) (o : Occupant) :
    (o.settleIf f).settleIf g = o.settleIf fun k => f k || g k := by
  simp only [Occupant.settleIf]
  rcases o.attachment with _ | _ | ⟨k, h, t, n⟩
  · rfl
  · rfl
  · cases hf : f t <;> simp [Attachment.settleIf, hf]

/-- Cancelling the moves to a sector ends the moves whose target it is. -/
theorem cancelMovesTo_occupant_settleIf (s : State) (k : SectorId) (i : RecIdx) :
    (s.cancelMovesTo k).occupant i = (s.occupant i).map (Occupant.settleIf fun j => decide (j = k)) := by
  rw [cancelMovesTo_occupant]
  refine congrArg (Option.map · _) (funext fun o => ?_)
  unfold Occupant.settleIf
  rcases ha : o.attachment with _ | ⟨k', h⟩ | ⟨k', h, t, n⟩
  · cases o; cases ha; rfl
  · cases o; cases ha; rfl
  · by_cases ht : t = k
    · simp [Attachment.movesTo, Attachment.move?, Attachment.settled, Attachment.settleIf, ht]
    · cases o; cases ha
      simp [Attachment.movesTo, Attachment.move?, Attachment.settleIf, ht]

/-- What an evaluation makes of a port: SECTOR STATE pending if it was or is raised, HANDOVER if it was and is not
cleared. -/
def Port.evaluated (raised cleared : Bool) (p : Port) : Port :=
  { p with causes := { p.causes with
      sectorState := p.causes.sectorState || raised, handover := p.causes.handover && !cleared } }

/-- Nothing raised and nothing cleared is nothing done. -/
theorem port_evaluated_false (p : Port) : p.evaluated false false = p := by
  simp only [Port.evaluated, Bool.or_false, Bool.not_false, Bool.and_true]

/-- What one evaluation raises and clears, and then another. -/
theorem port_evaluated_evaluated (r r' c c' : Bool) (p : Port) :
    (p.evaluated r c).evaluated r' c' = p.evaluated (r || r') (c || c') := by
  simp only [Port.evaluated, Bool.or_assoc, Bool.not_or, Bool.and_assoc]

/-- Raising SECTOR STATE raises it on every port and does nothing else to one. -/
theorem port_raiseSectorState (s : State) (l : Link) : s.raiseSectorState.port l = (s.port l).evaluated true false := by
  rw [State.raiseSectorState, port_mapPorts, Port.evaluated, Bool.or_true, Bool.not_false, Bool.and_true]
  rfl

section OneSector

variable (s : State) (k : SectorId)

/-- The evaluation of a sector reaches no other. -/
theorem sector_evaluatePresence (j : SectorId) :
    (s.evaluatePresence k).sector j = if j = k then (s.sector j).evaluated s.policy.m else s.sector j := by
  have hsectors : (s.evaluatePresence k).sectors = (s.setSector k ((s.sector k).evaluated s.policy.m)).sectors := by
    rw [evaluatePresence_eq]
    dsimp only
    split <;> split <;> simp
  rw [sector_congr hsectors]
  split
  next hj => rw [hj, sector_setSector_same]
  next hj => rw [sector_setSector_other _ _ hj]

/-- The evaluation of a sector keeps every generation. -/
theorem generation_evaluatePresence (i : RecIdx) :
    ((s.evaluatePresence k).record i).generation = (s.record i).generation := by
  rw [evaluatePresence_eq]
  dsimp only
  split <;> split <;>
    simp only [record_congr (raiseSectorState_table _), record_congr (setSector_table _ _ _), cancelMovesTo_generation]

/-- The evaluation of a sector that falls silent ends the moves to it (R80, R149). -/
theorem occupant_evaluatePresence (i : RecIdx) :
    (s.evaluatePresence k).occupant i =
      (s.occupant i).map (Occupant.settleIf fun j => decide (j = k) && (s.sector k).fallsSilent s.policy.m) := by
  have hkept : (s.occupant i).map (Occupant.settleIf fun _ => false) = s.occupant i := by
    rw [funext settleIf_false]
    exact Option.map_id'
  rw [evaluatePresence_eq]
  cases (s.sector k).fallsSilent s.policy.m <;> cases (s.sector k).changesState s.policy.m <;>
    simp [occupant_congr (raiseSectorState_table _), occupant_congr (setSector_table _ _ _),
      cancelMovesTo_occupant_settleIf, hkept]

/-- The evaluation of a sector that falls silent empties its queue (R80, R149). -/
theorem queue_evaluatePresence (j : SectorId) :
    (s.evaluatePresence k).queue j =
      if j = k ∧ (s.sector j).fallsSilent s.policy.m = true then [] else s.queue j := by
  rw [evaluatePresence_eq]
  have hjudged : (j = k ∧ (s.sector j).fallsSilent s.policy.m = true) ↔
      (j = k ∧ (s.sector k).fallsSilent s.policy.m = true) :=
    and_congr_right fun hj => by rw [hj]
  simp only [hjudged]
  cases (s.sector k).fallsSilent s.policy.m <;> cases (s.sector k).changesState s.policy.m <;>
    simp [queue_congr (raiseSectorState_queues _), queue_congr (setSector_queues _ _ _), cancelMovesTo_queue]

/-- The evaluation of a sector raises SECTOR STATE if its state changes, and clears HANDOVER on its link if it falls
silent (R55, R140). -/
theorem port_evaluatePresence (l : Link) :
    (s.evaluatePresence k).port l = (s.port l).evaluated ((s.sector k).changesState s.policy.m)
      ((s.sector k).fallsSilent s.policy.m && decide ((s.sector k).state.link? = some l)) := by
  rw [evaluatePresence_eq]
  have hcleared : (((s.setSector k ((s.sector k).evaluated s.policy.m)).cancelMovesTo k).port l) =
      (s.port l).evaluated false (decide ((s.sector k).state.link? = some l)) := by
    rw [cancelMovesTo_port, sector_setSector_same, link_evaluated, port_congr (setSector_ports _ _ _)]
    by_cases hl : (s.sector k).state.link? = some l <;> simp [hl, Port.evaluated]
  cases (s.sector k).fallsSilent s.policy.m <;> cases (s.sector k).changesState s.policy.m <;>
    simp [port_raiseSectorState, hcleared, port_congr (setSector_ports _ _ _), port_evaluated_evaluated,
      port_evaluated_false]

end OneSector

/-! ### Presence evaluation: several sectors, one after another -/

/-- `u` is `s` after the evaluation of some sectors, each of which is judged as it stands in `s`. -/
structure Evaluated (s : State) (ks : List SectorId) (u : State) : Prop where
  policy : u.policy = s.policy
  sector : ∀ j, u.sector j = if j ∈ ks then (s.sector j).evaluated s.policy.m else s.sector j
  generation : ∀ i, (u.record i).generation = (s.record i).generation
  occupant : ∀ i, u.occupant i =
    (s.occupant i).map (Occupant.settleIf fun j => decide (j ∈ ks) && (s.sector j).fallsSilent s.policy.m)
  queue : ∀ j, u.queue j = if j ∈ ks ∧ (s.sector j).fallsSilent s.policy.m = true then [] else s.queue j
  port : ∀ l, u.port l = (s.port l).evaluated (ks.any fun j => (s.sector j).changesState s.policy.m)
    (ks.any fun j => (s.sector j).fallsSilent s.policy.m && decide ((s.sector j).state.link? = some l))

/-- The evaluation of no sector changes nothing. -/
theorem Evaluated.nil (s : State) : Evaluated s [] s where
  policy := rfl
  sector _ := by simp
  generation _ := rfl
  occupant _ := by simp [funext settleIf_false]
  queue _ := by simp
  port _ := (port_evaluated_false _).symm

/-- A sector not evaluated so far is judged as it stood at the start (R79: one sector's evaluation does not depend on
another's). -/
theorem Evaluated.concat {s u : State} {ks : List SectorId} {k : SectorId} (h : Evaluated s ks u) (hk : k ∉ ks) :
    Evaluated s (ks ++ [k]) (u.evaluatePresence k) where
  policy := by rw [evaluatePresence_policy, h.policy]
  sector j := by
    rw [sector_evaluatePresence, h.policy, h.sector]
    by_cases hj : j = k
    · subst hj; simp [hk]
    · simp [hj]
  generation i := by rw [generation_evaluatePresence, h.generation]
  occupant i := by
    have hsec : u.sector k = s.sector k := by rw [h.sector, if_neg hk]
    rw [occupant_evaluatePresence, h.occupant, h.policy, hsec, Option.map_map]
    refine congrArg (Option.map · _) (funext fun o => ?_)
    rw [Function.comp, settleIf_settleIf]
    refine congrArg (Occupant.settleIf · o) (funext fun j => ?_)
    by_cases hj : j = k
    · subst hj; simp
    · simp [hj]
  queue j := by
    rw [queue_evaluatePresence, h.policy, h.queue, h.sector]
    by_cases hj : j = k
    · subst hj; simp [hk]
    · simp [hj]
  port l := by
    have hsec : u.sector k = s.sector k := by rw [h.sector, if_neg hk]
    rw [port_evaluatePresence, h.policy, hsec, h.port, port_evaluated_evaluated]
    simp only [List.any_append, List.any_cons, List.any_nil, Bool.or_false]

/-- Presence evaluation is the evaluation of every sector. -/
theorem evaluated_presence (s : State) : Evaluated s allSectors s.presence :=
  (((Evaluated.nil s).concat (k := .s0) (by decide)).concat (k := .s1) (by decide)).concat (k := .s2) (by decide)

/-- Presence evaluation reaches the records, the sectors, the queues and the ports. -/
theorem presence_frame (s : State) :
    s.presence = { s with
      table := s.presence.table, sectors := s.presence.sectors, queues := s.presence.queues
      ports := s.presence.ports } := by
  have hftu := presence_ftu s; have hpolicy := presence_policy s
  have hwindow := presence_windowOpen s; have hbuilder := presence_builder s
  have hlive := presence_live s; have hnext := presence_next s
  have hpower := presence_powerLow s; have hpending := presence_pending s
  generalize s.presence = t at *
  cases t; cases s; simp_all

section Presence

variable (s : State)

/-- Every sector is evaluated. -/
theorem sector_presence (k : SectorId) : s.presence.sector k = (s.sector k).evaluated s.policy.m := by
  rw [(evaluated_presence s).sector, if_pos (mem_allSectors k)]

/-- The moves to the sectors that fall silent end. -/
theorem occupant_presence (i : RecIdx) :
    s.presence.occupant i = (s.occupant i).map (Occupant.settleIf fun j => (s.sector j).fallsSilent s.policy.m) := by
  simpa only [mem_allSectors, decide_true, Bool.true_and] using (evaluated_presence s).occupant i

/-- The queues of the sectors that fall silent are emptied. -/
theorem queue_presence (k : SectorId) :
    s.presence.queue k = if (s.sector k).fallsSilent s.policy.m = true then [] else s.queue k := by
  simpa only [mem_allSectors, true_and] using (evaluated_presence s).queue k

/-- A sector falls silent exactly when it is PRESENT before and not after. -/
theorem fallsSilent_iff_presence (k : SectorId) :
    (s.sector k).fallsSilent s.policy.m = true ↔
      (s.sector k).state.isPresent = true ∧ (s.presence.sector k).state.isPresent = false := by
  rw [fallsSilent_iff, sector_presence]

/-- SECTOR STATE is raised by a change of any sector's state. -/
theorem any_changesState_iff :
    (allSectors.any fun k => (s.sector k).changesState s.policy.m) = true ↔
      ∃ k, (s.presence.sector k).state ≠ (s.sector k).state := by
  simp only [List.any_eq_true, mem_allSectors, true_and, Sector.changesState, decide_eq_true_eq, sector_presence,
    evaluated_state]

/-- HANDOVER is cleared on the link of any sector that falls silent. -/
theorem any_fallsSilent_link_iff (l : Link) :
    (allSectors.any fun k =>
        (s.sector k).fallsSilent s.policy.m && decide ((s.sector k).state.link? = some l)) = true ↔
      ∃ k, ((s.sector k).state.isPresent = true ∧ (s.presence.sector k).state.isPresent = false) ∧
        (s.sector k).state.link? = some l := by
  simp only [List.any_eq_true, mem_allSectors, true_and, Bool.and_eq_true, decide_eq_true_eq, fallsSilent_iff_presence]

/-- SECTOR STATE on a link after the evaluation. -/
theorem sectorState_presence (l : Link) :
    (s.presence.port l).causes.sectorState =
      ((s.port l).causes.sectorState || allSectors.any fun k => (s.sector k).changesState s.policy.m) := by
  rw [(evaluated_presence s).port]; rfl

/-- HANDOVER on a link after the evaluation. -/
theorem handover_presence (l : Link) :
    (s.presence.port l).causes.handover =
      ((s.port l).causes.handover && !allSectors.any fun k =>
        (s.sector k).fallsSilent s.policy.m && decide ((s.sector k).state.link? = some l)) := by
  rw [(evaluated_presence s).port]; rfl

end Presence

/-- Settles O15: what `evaluated_presence` says of all three sectors, read block by block. -/
theorem presenceEvaluation : Obligations.PresenceEvaluation := by
  intro s
  refine ⟨fun k hl => ?_, fun k l hl => ?_, (evaluated_presence s).generation,
    fun i o ho => ⟨fun k h target n ha hsilent => ?_, fun hkept => ?_⟩,
    fun k => ⟨fun hsilent => ?_, fun hnot => ?_⟩, fun hchange l => ?_, fun k l hsilent hl _ => ?_, fun hsame l => ?_,
    fun l hnone => ?_, fun l => ?_, presence_frame s, ?_, ?_, ?_⟩
  · rw [sector_presence, evaluated_of_noLink _ hl]
  · rw [sector_presence, evaluated_of_link _ hl, stateAfter_of_link _ hl]
    rfl
  · rw [occupant_presence, ho, Option.map_some, Occupant.settleIf, ha, Attachment.settleIf,
      if_pos ((fallsSilent_iff_presence s target).mpr hsilent)]
  · rw [occupant_presence, ho, Option.map_some, Occupant.settleIf]
    rcases ha : o.attachment with _ | ⟨k, h⟩ | ⟨k, h, target, n⟩
    · cases o; cases ha; rfl
    · cases o; cases ha; rfl
    · rw [Attachment.settleIf, if_neg (mt (fallsSilent_iff_presence s target).mp (hkept k h target n ha)), ← ha]
  · rw [queue_presence, if_pos ((fallsSilent_iff_presence s k).mpr hsilent)]
  · rw [queue_presence, if_neg (mt (fallsSilent_iff_presence s k).mp hnot)]
  · rw [sectorState_presence, (any_changesState_iff s).mpr hchange, Bool.or_true]
  · rw [handover_presence, (any_fallsSilent_link_iff s l).mpr ⟨k, hsilent, hl⟩, Bool.not_true, Bool.and_false]
  · have hno : ¬∃ k, (s.presence.sector k).state ≠ (s.sector k).state := fun ⟨k, hk⟩ => hk (hsame k)
    rw [sectorState_presence, Bool.eq_false_iff.mpr (mt (any_changesState_iff s).mp hno), Bool.or_false]
  · rw [handover_presence,
      Bool.eq_false_iff.mpr (mt (any_fallsSilent_link_iff s l).mp fun ⟨k, hsilent, hl⟩ => hnone k hsilent hl),
      Bool.not_false, Bool.and_true]
  · rw [(evaluated_presence s).port]
    rfl
  · simp [State.startBuild]
  · simp [State.startBuild]
  · simp [State.startBuild]

end Sys2Proof.Machine
end

section
/-! Proofs of the statements of building the plan (chapter 6): build start and its snapshot. -/

namespace Sys2Proof.Machine

/-! ### The power-low line and the margin (R7, R28) -/

/-- The part holds the level of the power-low line, and no more (R7). -/
theorem exec_powerLowLineChange (s : State) (level : Bool) :
    exec (.powerLowLineChange level) s = .next { s with powerLow := level } := rfl

theorem margin_of_locked {f : Ftu} (h : f.state = .locked) : f.margin = 0 := by simp only [Ftu.margin, h]

theorem margin_of_free {f : Ftu} (h : f.state = .free) : f.margin = 8 := by simp only [Ftu.margin, h]

/-- In HOLDOVER the margin grows with H and stops at 8 (R28). -/
theorem margin_of_holdover {f : Ftu} (h : f.state = .holdover) : f.margin = min (f.h / 32) 8 := by
  simp only [Ftu.margin, h]

/-! ### The sector precedence (R87) -/

/-- Reducing the frame number first does not change the order of the sectors. -/
theorem precedence_eq_filterMap (frame n : Nat) :
    precedence frame n = ((List.range n).map fun j => (frame + j) % n).filterMap sectorOf := by
  simp only [precedence, List.filterMap_map, Function.comp_def, Nat.mod_add_mod]

/-- A sector is picked by its number. -/
theorem any_sectorNo_eq (p : SectorId → Bool) (k : SectorId) :
    (allSectors.any fun j => decide (sectorNo j = sectorNo k) && p j) = p k := by
  cases k <;> simp [allSectors, sectorNo]

/-- A number that names no sector picks none. -/
theorem any_sectorNo_of_none (p : SectorId → Bool) {x : Nat} (h : sectorOf x = none) :
    (allSectors.any fun j => decide (sectorNo j = x) && p j) = false := by
  have hne : ∀ j, sectorNo j ≠ x := by
    rintro j rfl
    rw [sectorOf_sectorNo] at h
    exact nomatch h
  simp [hne]

/-- Striking sectors out of a list of names is striking out their numbers. -/
theorem map_sectorNo_filter (p : SectorId → Bool) (xs : List Nat) :
    ((xs.filterMap sectorOf).filter p).map sectorNo =
      xs.filter fun x => allSectors.any fun k => decide (sectorNo k = x) && p k := by
  induction xs with
  | nil => rfl
  | cons x xs ih =>
    rcases hx : sectorOf x with _ | k
    · rw [List.filterMap_cons_none hx, ih, List.filter_cons, any_sectorNo_of_none p hx]
      rfl
    · obtain rfl := sectorOf_eq_some.mp hx
      rw [List.filterMap_cons_some hx, List.filter_cons, List.filter_cons, any_sectorNo_eq, ← ih]
      split <;> rfl

/-! ### The snapshot (R86, R88) -/

/-- Presence evaluation leaves a sector's ring and heads alone. -/
theorem ring_heads_presence (s : State) (k : SectorId) :
    (s.presence.sector k).ring = (s.sector k).ring ∧ (s.presence.sector k).dlHead = (s.sector k).dlHead ∧
      (s.presence.sector k).ulHead = (s.sector k).ulHead := by
  rw [sector_presence, Sector.evaluated]
  split <;> exact ⟨rfl, rfl, rfl⟩

/-- A snapshot's sectors are those of the precedence that are PRESENT. -/
theorem sectors_snapshotOf (s : State) :
    (snapshotOf s).sectors =
      ((precedence ((s.ftu.frame + 1) % 4096) s.policy.n).filter fun k => (s.sector k).state.isPresent).map
        (snapSector s) := rfl

/-- The numbers of a snapshot's sectors: F mod N and on, rising and wrapping, those not PRESENT struck out (R87). -/
theorem sectorNos_snapshotOf (s : State) :
    ((snapshotOf s).sectors.map fun v => sectorNo v.id) =
      ((List.range s.policy.n).map fun j => ((s.ftu.frame + 1) % 4096 + j) % s.policy.n).filter fun x =>
        allSectors.any fun k => decide (sectorNo k = x) && (s.sector k).state.isPresent := by
  rw [sectors_snapshotOf, List.map_map, precedence_eq_filterMap, ← map_sectorNo_filter]
  rfl

/-- A snapshot ring lists the records of the ring, suspended ones too (R88). -/
theorem map_index_snapSector_ring (s : State) (k : SectorId) :
    (snapSector s k).ring.map SnapRecord.index = (s.sector k).ring := by
  rw [snapSector, List.map_map]
  exact List.map_id' _

/-- Each sector of a build's snapshot has the ring, the heads and the mask of build start. -/
theorem snapshotOf_presence_sector {s : State} {v : SnapSector} (h : v ∈ (snapshotOf s.presence).sectors) :
    v.ring.map SnapRecord.index = (s.sector v.id).ring ∧ v.dlHead = (s.sector v.id).dlHead ∧
      v.ulHead = (s.sector v.id).ulHead ∧ v.mask = s.policy.masks.get v.id := by
  obtain ⟨k, -, rfl⟩ := List.mem_map.mp h
  obtain ⟨hring, hdl, hul⟩ := ring_heads_presence s k
  exact ⟨(map_index_snapSector_ring s.presence k).trans hring, hdl, hul,
    congrArg (fun p : Policy => p.masks.get k) (presence_policy s)⟩

/-- The values of a build's snapshot are those before presence evaluation; only the sectors can differ (R86). -/
theorem snapshotOf_presence_eq (s : State) :
    snapshotOf s.presence =
      { frame := (s.ftu.frame + 1) % 4096, d := s.policy.d, g := s.policy.g, umin := s.policy.umin
        z := s.policy.z, alim := s.policy.alim, n := s.policy.n, adjacency := s.policy.adjacency
        budget := if s.powerLow = true then s.policy.bl else s.policy.bn, mh := s.ftu.margin
        sectors := (snapshotOf s.presence).sectors } := by
  simp only [snapshotOf, presence_ftu, presence_policy, presence_powerLow]

/-- Settles O16: the build holds the snapshot taken after presence evaluation, which leaves the FTU, the policy and the
power-low line as they were. The order holds whatever N is. -/
theorem snapshotTakenAtBuildStart : Obligations.SnapshotTakenAtBuildStart := by
  refine ⟨exec_powerLowLineChange, fun s _ _ => ⟨_, startBuild_builder s, rfl, rfl, ?_⟩⟩
  have hsnap := snapshotOf_presence_eq s
  have hmargin : (snapshotOf s.presence).mh = s.ftu.margin := congrArg Snapshot.mh hsnap
  have hsectors := sectorNos_snapshotOf s.presence
  rw [presence_ftu, presence_policy] at hsectors
  exact ⟨congrArg Snapshot.frame hsnap, congrArg Snapshot.d hsnap, congrArg Snapshot.g hsnap,
    congrArg Snapshot.umin hsnap, congrArg Snapshot.z hsnap, congrArg Snapshot.alim hsnap, congrArg Snapshot.n hsnap,
    congrArg Snapshot.adjacency hsnap, congrArg Snapshot.budget hsnap, fun h => hmargin.trans (margin_of_locked h),
    fun h => hmargin.trans (margin_of_free h), fun h => hmargin.trans (margin_of_holdover h), hsectors,
    fun _ hv => snapshotOf_presence_sector hv⟩

end Sys2Proof.Machine
end

section
/-! Proofs of the statements of tile placement and the turnaround edge (chapter 7): the edge arithmetic. -/

namespace Sys2Proof.Machine

/-- The delay is the timing advance in symbol periods, rounded up (R114). -/
theorem delayOf_bounds (ta : Nat) : ta ≤ 16 * delayOf ta ∧ 16 * delayOf ta < ta + 16 := by
  rw [Nat.mul_comm]
  exact ceilDiv_bounds (by decide) ta

/-- The largest timing advance, 1023, has a delay of 64 symbol periods (R114). -/
theorem delayOf_le {ta : Nat} (h : ta ≤ 1023) : delayOf ta ≤ 64 := by
  have := (delayOf_bounds ta).2
  omega

/-- The model's natural subtraction is the source's `max(0, delay + Mh − G)` (R115). -/
theorem cast_trimOf (snap : Snapshot) (e : Entry) :
    (trimOf snap e : Int) = max 0 ((delayOf e.ta : Int) + snap.mh - snap.g) := by
  unfold trimOf
  omega

/-- The model's natural subtraction is the source's `max(0, 20 − trim)` (R115). -/
theorem cast_usableOf (snap : Snapshot) (e : Entry) :
    (usableOf snap e : Int) = max 0 (20 - (trimOf snap e : Int)) := by
  unfold usableOf
  omega

/-- The guard only shortens the trim (R115). -/
theorem trimOf_le (snap : Snapshot) (e : Entry) : trimOf snap e ≤ delayOf e.ta + snap.mh :=
  Nat.sub_le _ _

/-- No record has more than the 20 symbol periods of a tile (R115). -/
theorem usableOf_le (snap : Snapshot) (e : Entry) : usableOf snap e ≤ 20 :=
  Nat.sub_le _ _

/-- A tile before the edge slot carries the full value of the class (R117). -/
theorem tileBytes_of_lt {t : Nat} (h : t < 90) (snap : Snapshot) (e : Entry) :
    tileBytes snap e t = classBytes e.cls := by
  simp [tileBytes, inEdge, Nat.not_le.mpr h]

/-- An edge tile carries the usable part of the class's value, rounded down (R117). -/
theorem tileBytes_of_le {t : Nat} (h : 90 ≤ t) (snap : Snapshot) (e : Entry) :
    tileBytes snap e t = classBytes e.cls * usableOf snap e / 20 := by
  simp [tileBytes, inEdge, h]

/-- The bytes of an edge tile between the bounds that rounding down sets, and never more than a full tile's (R117). -/
theorem tileBytes_bounds {t : Nat} (h : 90 ≤ t) (snap : Snapshot) (e : Entry) :
    20 * tileBytes snap e t ≤ classBytes e.cls * usableOf snap e ∧
      classBytes e.cls * usableOf snap e < 20 * tileBytes snap e t + 20 ∧ tileBytes snap e t ≤ classBytes e.cls := by
  have hfull : classBytes e.cls * usableOf snap e ≤ classBytes e.cls * 20 := Nat.mul_le_mul_left _ (usableOf_le snap e)
  rw [tileBytes_of_le h]
  omega

/-- Settles O18: the largest trim is the largest delay with the largest margin and no guard. -/
theorem edgeArithmetic : Obligations.EdgeArithmetic := fun snap e =>
  have hmax (hta : e.ta ≤ 1023) (hmh : snap.mh ≤ 8) : trimOf snap e ≤ 72 :=
    (trimOf_le snap e).trans (Nat.add_le_add (delayOf_le hta) hmh)
  ⟨delayOf_bounds e.ta, delayOf_le, cast_trimOf snap e, cast_usableOf snap e, hmax,
    fun _ h => tileBytes_of_lt h snap e, fun _ h => tileBytes_bounds h snap e, rfl⟩

end Sys2Proof.Machine
end

section
/-! Proofs of the statements of plans and publication (chapter 8): the plan at a frame start. -/

namespace Sys2Proof.Machine

/-! ### What the rest of a frame start leaves of the plan (R14, R147, R155) -/

@[simp] theorem setQueue_planReady (s : State) (k : SectorId) (q : List Notice) (l : Link) :
    ((s.setQueue k q).port l).causes.planReady = (s.port l).causes.planReady := by
  rw [setQueue_port]; split <;> rfl

@[simp] theorem setQueue_readyFrame (s : State) (k : SectorId) (q : List Notice) (l : Link) :
    ((s.setQueue k q).port l).readyFrame = (s.port l).readyFrame := by
  rw [setQueue_port]; split <;> rfl

/-- The countdown reaches a Link Port by HANDOVER only, as it writes the queues. -/
@[simp] theorem countdown_planReady (s : State) (l : Link) :
    (s.countdown.port l).causes.planReady = (s.port l).causes.planReady := by
  simp [State.countdown, allSectors, port_congr (mapOccupants_ports s _)]

@[simp] theorem countdown_readyFrame (s : State) (l : Link) :
    (s.countdown.port l).readyFrame = (s.port l).readyFrame := by
  simp [State.countdown, allSectors, port_congr (mapOccupants_ports s _)]

@[simp] theorem countSlot_causes (p : Port) : p.countSlot.causes = p.causes := by
  unfold Port.countSlot; split <;> rfl

@[simp] theorem countSlot_readyFrame (p : Port) : p.countSlot.readyFrame = p.readyFrame := by
  unfold Port.countSlot; split <;> rfl

/-- Only the event that closes the demand window starts a build (R85). -/
theorem slotEvent_builder_of_ne {s : State} {k : Nat} (h : k ≠ s.policy.window.w) :
    (s.slotEvent k).builder = s.builder := by
  obtain ⟨-, he⟩ | ⟨-, hw, -⟩ | ⟨-, -, he⟩ := slotEvent_cases s k
  · rw [he, mapPorts_builder]
  · exact absurd hw h
  · rw [he, mapPorts_builder]

/-- An event that does not close the demand window is no more than counted by the Link Ports (R155). -/
theorem slotEvent_port_of_ne {s : State} {k : Nat} (h : k ≠ s.policy.window.w) (l : Link) :
    (s.slotEvent k).port l = (s.port l).countSlot := by
  obtain ⟨-, he⟩ | ⟨-, hw, -⟩ | ⟨-, -, he⟩ := slotEvent_cases s k
  · rw [he]; exact port_mapPorts s _ l
  · exact absurd hw h
  · rw [he, port_mapPorts]

/-- A window pair that closes at slot 1 or later, pending or else in force, is the one that slot 0 meets (R14). -/
theorem applyWindow_close_pos {p : Policy} (hpending : ∀ v ∈ p.pendingWindow, 1 ≤ v.w)
    (hforce : p.pendingWindow = none → 1 ≤ p.window.w) : 1 ≤ p.applyWindow.window.w := by
  unfold Policy.applyWindow
  rcases hp : p.pendingWindow with _ | v
  · exact hforce hp
  · exact hpending v hp

/-! ### The plan's part of a frame start (R126, R127) -/

theorem repeatLive_of_empty {s : State} {overrun : Bool} (h : s.live.plan = .empty overrun) (frame : Nat)
    (abandoned : Bool) :
    s.repeatLive frame abandoned =
      { s with live := { frame := frame, plan := .empty abandoned }, next := none } := by
  simp only [State.repeatLive, h]

theorem repeatLive_of_plan {s : State} {p : Plan} (h : s.live.plan = .built p ∨ s.live.plan = .repeated p)
    (frame : Nat) (abandoned : Bool) :
    s.repeatLive frame abandoned =
      ({ s with live := { frame := frame, plan := .repeated (p.voidWhere (grantFails s)) }
                next := none } : State).raisePlanReady frame := by
  rcases h with h | h <;> simp only [State.repeatLive, h]

@[simp] theorem repeatLive_next (s : State) (frame : Nat) (abandoned : Bool) :
    (s.repeatLive frame abandoned).next = none := by
  unfold State.repeatLive
  split
  · rfl
  · exact raisePlanReady_next _ _
  · exact raisePlanReady_next _ _

/-- A BUILT NEXT of the frame becomes LIVE (R126). -/
theorem planFrameStart_of_match {s : State} {n : NextPlan} {frame : Nat} (h : s.next = some n)
    (hframe : n.frame = frame) :
    s.planFrameStart frame =
      { s with builder := none, live := { frame := frame, plan := .built n.plan }, next := none } := by
  simp only [State.planFrameStart, h, if_pos hframe]

/-- Without a BUILT NEXT of the frame LIVE is repeated (R127). -/
theorem planFrameStart_of_noMatch {s : State} {frame : Nat} (h : ∀ n ∈ s.next, n.frame ≠ frame) :
    s.planFrameStart frame = ({ s with builder := none } : State).repeatLive frame s.builder.isSome := by
  rcases hn : s.next with _ | n
  · simp only [State.planFrameStart, hn]
  · simp only [State.planFrameStart, hn, if_neg (h n hn)]

/-- An EMPTY LIVE takes the number, and whether a build was abandoned (R127). -/
theorem planFrameStart_of_empty {s : State} {frame : Nat} {overrun : Bool} (h : ∀ n ∈ s.next, n.frame ≠ frame)
    (hlive : s.live.plan = .empty overrun) :
    s.planFrameStart frame =
      { s with builder := none, live := { frame := frame, plan := .empty s.builder.isSome }, next := none } :=
  (planFrameStart_of_noMatch h).trans (repeatLive_of_empty (s := { s with builder := none }) hlive frame _)

/-- A LIVE that holds a plan is copied, its grants tested, and PLAN READY is raised (R127). -/
theorem planFrameStart_of_plan {s : State} {frame : Nat} {p : Plan} (h : ∀ n ∈ s.next, n.frame ≠ frame)
    (hlive : s.live.plan = .built p ∨ s.live.plan = .repeated p) :
    s.planFrameStart frame =
      ({ s with builder := none, live := { frame := frame, plan := .repeated (p.voidWhere (grantFails s)) }
                next := none } : State).raisePlanReady frame :=
  (planFrameStart_of_noMatch h).trans (repeatLive_of_plan (s := { s with builder := none }) hlive frame _)

/-- A frame start leaves no build and no NEXT (R107, R126, R127). -/
theorem planFrameStart_builder_next (s : State) (frame : Nat) :
    (s.planFrameStart frame).builder = none ∧ (s.planFrameStart frame).next = none := by
  by_cases h : ∀ n ∈ s.next, n.frame ≠ frame
  · rw [planFrameStart_of_noMatch h, repeatLive_builder, repeatLive_next]
    exact ⟨rfl, rfl⟩
  · push Not at h
    obtain ⟨n, hn, hframe⟩ := h
    rw [planFrameStart_of_match hn hframe]
    exact ⟨rfl, rfl⟩

/-! ### The frame start -/

/-- The state a frame start's plan is judged in: its number, timing set and window pair are in force (R14, R19, R31). -/
def State.frameOpened (s : State) : State :=
  { s with ftu := s.ftu.startFrame, policy := s.policy.applyWindow }

/-- The state after the plan's part of a frame start. -/
def State.planStarted (s : State) : State := s.frameOpened.planFrameStart s.ftu.nextFrame

theorem startFrame_eq (s : State) : s.startFrame = s.planStarted.countdown.slotEvent 0 := rfl

theorem startFrame_live (s : State) : s.startFrame.live = s.planStarted.live := by
  rw [startFrame_eq, slotEvent_live, countdown_live]

@[simp] theorem startFrame_next (s : State) : s.startFrame.next = none := by
  rw [startFrame_eq, slotEvent_next, countdown_next]
  exact (planFrameStart_builder_next _ _).2

section SlotZero

variable {s : State} (hw : 1 ≤ s.policy.applyWindow.window.w)
include hw

/-- Slot 0 does not close the window in force in the new frame. -/
theorem zero_ne_close : 0 ≠ s.planStarted.countdown.policy.window.w := by
  rw [countdown_policy, State.planStarted, planFrameStart_policy]
  exact Nat.ne_of_lt hw

theorem startFrame_builder : s.startFrame.builder = none := by
  rw [startFrame_eq, slotEvent_builder_of_ne (zero_ne_close hw), countdown_builder]
  exact (planFrameStart_builder_next _ _).1

theorem startFrame_planReady (l : Link) :
    (s.startFrame.port l).causes.planReady = (s.planStarted.port l).causes.planReady := by
  rw [startFrame_eq, slotEvent_port_of_ne (zero_ne_close hw), countSlot_causes, countdown_planReady]

theorem startFrame_readyFrame (l : Link) : (s.startFrame.port l).readyFrame = (s.planStarted.port l).readyFrame := by
  rw [startFrame_eq, slotEvent_port_of_ne (zero_ne_close hw), countSlot_readyFrame, countdown_readyFrame]

end SlotZero

/-- Settles O14: by the plan's part of the frame start; neither the countdown nor slot 0 reaches a plan, a ready frame
or PLAN READY. -/
theorem planSwitchesOrRepeats : Obligations.PlanSwitchesOrRepeats := by
  intro s hpending hforce frame t
  have hw := applyWindow_close_pos hpending hforce
  have hready (l : Link) : (t.port l).causes.planReady = (s.planStarted.port l).causes.planReady ∧
      (t.port l).readyFrame = (s.planStarted.port l).readyFrame :=
    ⟨startFrame_planReady hw l, startFrame_readyFrame hw l⟩
  refine ⟨congrArg Ftu.frame (startFrame_ftu s), startFrame_builder hw, startFrame_next s, ?switch, ?keep⟩
  case switch =>
    intro n hn hframe
    have hplan : s.planStarted = _ := planFrameStart_of_match (s := s.frameOpened) hn hframe
    rw [hplan] at hready
    exact ⟨by rw [startFrame_live, hplan]; rfl, hready⟩
  case keep =>
    intro hnone
    refine ⟨fun overrun hempty => ?empty, fun p hp => ?held⟩
    case empty =>
      have hplan : s.planStarted = _ := planFrameStart_of_empty (s := s.frameOpened) hnone hempty
      rw [hplan] at hready
      exact ⟨by rw [startFrame_live, hplan]; rfl, fun l => (hready l).1⟩
    case held =>
      have hplan : s.planStarted = _ := planFrameStart_of_plan (s := s.frameOpened) hnone hp
      have hlive : t.live = { frame := frame, plan := .repeated (p.voidWhere (grantFails s)) } := by
        rw [startFrame_live, hplan, raisePlanReady_live]; rfl
      have hport (l : Link) : s.planStarted.port l = (s.raisePlanReady frame).port l := by
        rw [hplan]; rfl
      refine ⟨grantFails s, hlive, grantFails_iff s, by rw [hlive]; rfl, fun l k hk => ?_, fun l hl => ?_⟩
      · simpa only [hport, raisePlanReady_port_present frame hk] using hready l
      · simpa only [hport, raisePlanReady_port_other frame hl] using hready l

end Sys2Proof.Machine
end

section
/-! Proofs of the statements of moving subscribers between sectors (chapter 9): MOVE, READ NOTICE, CANCEL MOVE and
CLAIM. -/

namespace Sys2Proof.Machine

open Sys2Proof.Safety

/-! ### What the queues' operations reach (R140, R142, R146) -/

/-- Replacing a queue reaches the queues and the ports alone. -/
theorem setQueue_frame (s : State) (k : SectorId) (q : List Notice) :
    s.setQueue k q = { s with queues := (s.setQueue k q).queues, ports := (s.setQueue k q).ports } := by
  unfold State.setQueue
  dsimp only
  split <;> rfl

/-- Withdrawing a notice reaches the queues and the ports alone. -/
theorem withdraw_frame (s : State) (t : SectorId) (i : RecIdx) :
    s.withdraw t i = { s with queues := (s.withdraw t i).queues, ports := (s.withdraw t i).ports } := by
  unfold State.withdraw
  split
  · exact setQueue_frame s t _
  · rfl

/-- Ending a MOVING record's move makes it ACTIVE in its source and withdraws its notice. -/
theorem cancelMoveOf_of_moving {s : State} {i : RecIdx} {o : Occupant} {home t : SectorId} {hh n : Nat}
    (ho : s.occupant i = some o) (ha : o.attachment = .moving home hh t n) :
    s.cancelMoveOf i = (s.setOccupant i (some { o with attachment := .active home hh })).withdraw t i := by
  simp only [State.cancelMoveOf, ho, ha]

/-- The flag that a record's notice is still queued: 1 exactly when the queue holds a notice of the record's index. -/
theorem putFlag_noticeQueued (i : RecIdx) (q : List Notice) :
    putFlag (noticeQueued i q) = [if ∃ n ∈ q, n.index = i then 1 else 0] := by
  have hiff : noticeQueued i q = true ↔ ∃ n ∈ q, n.index = i := by simp [noticeQueued]
  split
  next h => rw [hiff.mpr h]; rfl
  next h => rw [Bool.eq_false_iff.mpr fun hq => h (hiff.mp hq)]; rfl

/-! ### MOVE: the checks (R138) -/

/-- A body that is not a handle and a sector is refused. -/
theorem moveAnswer_of_length {body : List Byte} (k : SectorId) (s : State) (h : body.length ≠ 2) :
    moveAnswer body k s = refuse s .range [] := by
  unfold moveAnswer
  split
  · exact absurd rfl h
  · rfl

/-- A number that names no sector is refused. -/
theorem moveAnswer_of_noSector (h : Byte) {tb : Byte} (k : SectorId) (s : State) (ht : 2 < tb.toNat) :
    moveAnswer [h, tb] k s = refuse s .range [] := by
  simp only [moveAnswer, sectorOf_eq_none ht]

/-- A handle out of range is refused before it is looked up. -/
theorem moveAnswer_of_badHandle {h : Byte} (tb : Byte) (k : SectorId) (s : State) (hh : handleOk h.toNat = false) :
    moveAnswer [h, tb] k s = refuse s .range [] := by
  rw [moveAnswer, hh]
  cases sectorOf tb.toNat <;> rfl

section MoveTarget

variable {s : State} {k : SectorId} {h : Byte} (t : SectorId)

/-- A handle with no record is refused. -/
theorem moveAnswer_of_noRecord (hh : handleOk h.toNat = true) (hl : s.lookup k h.toNat = none) :
    moveAnswer [h, BitVec.ofNat 8 (sectorNo t)] k s = refuse s .noHandle [] := by
  simp only [moveAnswer, toNat_sectorByte, sectorOf_sectorNo, hh, if_true, hl]

/-- MOVE of a handle's record goes on to the checks of the record and the target. -/
theorem moveAnswer_of_record {i : RecIdx} {o : Occupant} (hh : handleOk h.toNat = true)
    (hl : s.lookup k h.toNat = some (i, o)) :
    moveAnswer [h, BitVec.ofNat 8 (sectorNo t)] k s = moveChecked s k t h.toNat i o := by
  simp only [moveAnswer, toNat_sectorByte, sectorOf_sectorNo, hh, if_true, hl]

end MoveTarget

/-- A sector that is PRESENT on no link is not PRESENT. -/
theorem isPresent_eq_false {st : SectorState} (h : ∀ j, st ≠ .present j) : st.isPresent = false := by
  cases st with
  | present j => exact absurd rfl (h j)
  | _ => rfl

section MoveChecks

variable {s : State} {k t : SectorId} {h : Nat} {i : RecIdx} {o : Occupant}

/-- A record that is MOVING is refused with its target and frames remaining. -/
theorem moveChecked_of_moving {t' : SectorId} {n : Nat} (hm : o.attachment.move? = some (t', n)) :
    moveChecked s k t h i o = refuse s .notActive [BitVec.ofNat 8 (sectorNo t'), BitVec.ofNat 8 n] := by
  rw [moveChecked, hm]
  rfl

/-- A suspended record is refused. -/
theorem moveChecked_of_suspended (hm : o.attachment.move? = none) (hs : o.suspended = true) :
    moveChecked s k t h i o = refuse s .suspended [] := by
  simp only [moveChecked, hm, hs, if_true]

/-- The link's own sector and a DISABLED sector are refused as targets. -/
theorem moveChecked_of_badTarget (hm : o.attachment.move? = none) (hs : o.suspended = false)
    (ht : t = k ∨ (s.sector t).state = .disabled) : moveChecked s k t h i o = refuse s .range [] := by
  simp only [moveChecked, hm, hs, Bool.false_eq_true, if_false, if_pos ht]

/-- A target that is not PRESENT is refused. -/
theorem moveChecked_of_silent (hm : o.attachment.move? = none) (hs : o.suspended = false) (hne : t ≠ k)
    (hd : (s.sector t).state ≠ .disabled) (hp : ∀ j, (s.sector t).state ≠ .present j) :
    moveChecked s k t h i o = refuse s .targetSilent [] := by
  simp only [moveChecked, hm, hs, Bool.false_eq_true, if_false, if_neg (not_or.mpr ⟨hne, hd⟩),
    isPresent_eq_false hp]

/-- A PRESENT target is left to the room in its queue. -/
theorem moveChecked_of_present {j : Link} (hm : o.attachment.move? = none) (hs : o.suspended = false) (hne : t ≠ k)
    (hp : (s.sector t).state = .present j) :
    moveChecked s k t h i o =
      if 8 ≤ (s.queue t).length then refuse s .noticeFull [] else moveTaken s k t h i o := by
  have hok : ¬(t = k ∨ (s.sector t).state = .disabled) := by simp [hne, hp]
  simp only [moveChecked, hm, hs, Bool.false_eq_true, if_false, if_neg hok]
  rw [hp]
  rfl

end MoveChecks

/-! ### MOVE: what a move taken leaves (R139, R140) -/

section MoveTaken

variable (s : State) (k t : SectorId) (h : Nat) (i : RecIdx) (o : Occupant)

/-- The record is MOVING and its notice is queued. -/
theorem moveTaken_state :
    (moveTaken s k t h i o).state =
      (s.setOccupant i (some { o with attachment := .moving k h t s.policy.hlim, lapse := none })).setQueue t
        (s.queue t ++ [noticeOf s k i o]) :=
  rfl

/-- The target's queue holds the notice as its last. -/
theorem queue_moveTaken_same : (moveTaken s k t h i o).state.queue t = s.queue t ++ [noticeOf s k i o] := by
  rw [moveTaken_state, setQueue_queue, if_pos rfl]

/-- The other queues are as they were. -/
theorem queue_moveTaken_other {q : SectorId} (hq : q ≠ t) : (moveTaken s k t h i o).state.queue q = s.queue q := by
  rw [moveTaken_state, setQueue_queue, if_neg hq, queue_congr (setOccupant_queues s i _)]

/-- MOVE answers the record, the target, the frames and the length of the target's queue. -/
theorem moveTaken_eq :
    moveTaken s k t h i o =
      { state := (moveTaken s k t h i o).state
        status := .ok
        body := recordBytes s i ++ [BitVec.ofNat 8 (sectorNo t), BitVec.ofNat 8 s.policy.hlim,
          BitVec.ofNat 8 ((s.queue t).length + 1)] } := by
  have hlen : ((moveTaken s k t h i o).state.queue t).length = (s.queue t).length + 1 := by
    rw [queue_moveTaken_same, List.length_append, List.length_singleton]
  rw [← hlen]
  rfl

/-- The record is MOVING for Hlim frames, without a lapse mark. -/
theorem record_moveTaken_same :
    (moveTaken s k t h i o).state.record i =
      { generation := (s.record i).generation
        occupant := some { o with attachment := .moving k h t s.policy.hlim, lapse := none } } := by
  rw [moveTaken_state, record_congr (setQueue_table _ t _), State.setOccupant, record_setRecord_same]

/-- The other records are as they were. -/
theorem record_moveTaken_other {q : RecIdx} (hq : q ≠ i) :
    (moveTaken s k t h i o).state.record q = s.record q := by
  rw [moveTaken_state, record_congr (setQueue_table _ t _), State.setOccupant, record_setRecord_other _ _ hq]

/-- HANDOVER is pending on the link of the target, and no port changes otherwise. -/
theorem port_moveTaken {j : Link} (hp : (s.sector t).state = .present j) (l : Link) :
    (moveTaken s k t h i o).state.port l =
      if l = j then { s.port l with causes := { (s.port l).causes with handover := true } } else s.port l := by
  have hlink : (s.sector t).state.link? = some l ↔ l = j := by
    rw [hp]
    exact (Option.some_inj (a := j)).trans eq_comm
  have hne : (s.queue t ++ [noticeOf s k i o]).isEmpty = false := by simp
  simp only [moveTaken_state, setQueue_port, sector_congr (setOccupant_sectors s i _),
    port_congr (setOccupant_ports s i _), hlink, hne, Bool.not_false]

/-- MOVE reaches no block but the records, the queues and the ports. -/
theorem moveTaken_frame :
    (moveTaken s k t h i o).state = { s with
      table := (moveTaken s k t h i o).state.table, queues := (moveTaken s k t h i o).state.queues
      ports := (moveTaken s k t h i o).state.ports } := by
  rw [moveTaken_state, setQueue_frame]
  rfl

end MoveTaken

/-- Settles O48: the owner's answer in the order of R138's checks, and the state MOVE leaves, read block by block. -/
theorem moveOffersTheRecord : Obligations.MoveOffersTheRecord := by
  intro l k tag s hr hb
  have answer {body : List Byte} {a : Answer} (ha : moveAnswer body k s = a) :
      exec (.move l tag body) s = .next (a.state.putResponse l (reply .move tag a.status a.body)) :=
    next_serveBound_eq .move (moveAnswer body) hr hb ha
  refine ⟨fun body hlen => answer (moveAnswer_of_length k s hlen),
    fun h tb hbad => answer (a := refuse s .range []) ?range, fun h t h1 h127 => ?_⟩
  case range =>
    obtain h0 | h127 | ht := hbad
    · exact moveAnswer_of_badHandle tb k s (handleOk_of_not_mem (.inl h0))
    · exact moveAnswer_of_badHandle tb k s (handleOk_of_not_mem (.inr h127))
    · exact moveAnswer_of_noSector h k s ht
  have hh : handleOk h.toNat = true := handleOk_of_mem h1 h127
  refine ⟨fun hl => answer (moveAnswer_of_noRecord t hh hl), fun i o hl => ?_⟩
  have hrec := moveAnswer_of_record t hh hl
  refine ⟨fun t' n hm => answer (hrec.trans (moveChecked_of_moving hm)), fun hm =>
    ⟨fun hs => answer (hrec.trans (moveChecked_of_suspended hm hs)), fun hs =>
      ⟨fun ht => answer (hrec.trans (moveChecked_of_badTarget hm hs ht)),
        fun hne hd hp => answer (hrec.trans (moveChecked_of_silent hm hs hne hd hp)), fun hne j hp => ?present⟩⟩⟩
  case present =>
    have hroom := hrec.trans (moveChecked_of_present hm hs hne hp)
    refine ⟨fun hfull => answer (hroom.trans (if_pos hfull)), fun hfree => ?_⟩
    have htaken := hroom.trans ((if_neg (Nat.not_le.mpr hfree)).trans (moveTaken_eq s k t h.toNat i o))
    exact ⟨(moveTaken s k t h.toNat i o).state, answer htaken,
      record_moveTaken_same s k t _ i o,
      fun q hq => record_moveTaken_other s k t _ i o hq,
      queue_moveTaken_same s k t _ i o,
      fun q hq => queue_moveTaken_other s k t _ i o hq,
      (port_moveTaken s k t _ i o hp j).trans (if_pos rfl),
      fun q hq => (port_moveTaken s k t _ i o hp q).trans (if_neg hq),
      moveTaken_frame s k t _ i o⟩

/-! ### READ NOTICE (R141) -/

/-- READ NOTICE carries no body. -/
theorem readNoticeAnswer_of_body {body : List Byte} (k : SectorId) (s : State) (h : body ≠ []) :
    readNoticeAnswer body k s = refuse s .range [] := by
  cases body with
  | nil => exact absurd rfl h
  | cons => rfl

section ReadNotice

variable {s : State} {k : SectorId}

/-- An empty queue is refused. -/
theorem readNoticeAnswer_of_empty (hq : s.queue k = []) : readNoticeAnswer [] k s = refuse s .queueEmpty [] := by
  rw [readNoticeAnswer, hq]

/-- The oldest notice leaves the queue and is the answer, with the number left. -/
theorem readNoticeAnswer_of_cons {n : Notice} {rest : List Notice} (hq : s.queue k = n :: rest) :
    readNoticeAnswer [] k s =
      { state := s.setQueue k rest
        status := .ok
        body := bytes3 n.id ++ [BitVec.ofNat 8 n.index.val, BitVec.ofNat 8 n.generation,
          BitVec.ofNat 8 (sectorNo n.source)] ++ bytes2 n.ta ++ [BitVec.ofNat 8 n.cls] ++ termsBytes n.terms ++
          [BitVec.ofNat 8 n.frames, BitVec.ofNat 8 rest.length] } := by
  rw [readNoticeAnswer, hq]
  rfl

/-- On the link bound to the sector HANDOVER follows a queue that is replaced. -/
theorem port_setQueue_bound {l : Link} (hb : BoundTo s l k) (q : List Notice) :
    (s.setQueue k q).port l =
      { s.port l with causes := { (s.port l).causes with handover := !q.isEmpty } } := by
  rw [setQueue_port, if_pos hb.1]

/-- The ports of the other links are as they were. -/
theorem port_setQueue_other {l j : Link} (hb : BoundTo s l k) (q : List Notice) (hj : j ≠ l) :
    (s.setQueue k q).port j = s.port j := by
  rw [setQueue_port, if_neg]
  exact fun hlink => hj (Option.some.inj (hlink.symm.trans hb.1))

end ReadNotice

/-! ### CANCEL MOVE (R146) -/

/-- A body that is not a handle is refused. -/
theorem cancelMoveAnswer_of_length {body : List Byte} (k : SectorId) (s : State) (h : body.length ≠ 1) :
    cancelMoveAnswer body k s = refuse s .range [] := by
  unfold cancelMoveAnswer
  split
  · exact absurd rfl h
  · rfl

section CancelMove

variable {s : State} {k : SectorId} {h : Byte}

/-- A handle out of range is refused before it is looked up. -/
theorem cancelMoveAnswer_of_badHandle (hh : handleOk h.toNat = false) :
    cancelMoveAnswer [h] k s = refuse s .range [] := by
  simp only [cancelMoveAnswer, hh, Bool.false_eq_true, if_false]

/-- A handle with no record is refused. -/
theorem cancelMoveAnswer_of_noRecord (hh : handleOk h.toNat = true) (hl : s.lookup k h.toNat = none) :
    cancelMoveAnswer [h] k s = refuse s .noHandle [] := by
  simp only [cancelMoveAnswer, hh, if_true, hl]

variable {i : RecIdx} {o : Occupant}

/-- A record that is not MOVING is refused. -/
theorem cancelMoveAnswer_of_settled (hh : handleOk h.toNat = true) (hl : s.lookup k h.toNat = some (i, o))
    (hm : o.attachment.move? = none) : cancelMoveAnswer [h] k s = refuse s .notMoving [] := by
  simp only [cancelMoveAnswer, hh, if_true, hl, hm]

/-- A MOVING record's move ends, and the answer says whether its notice was still queued. -/
theorem cancelMoveAnswer_of_moving {home t : SectorId} {hh n : Nat} (hok : handleOk h.toNat = true)
    (hl : s.lookup k h.toNat = some (i, o)) (ha : o.attachment = .moving home hh t n) :
    cancelMoveAnswer [h] k s =
      { state := s.cancelMoveOf i
        status := .ok
        body := recordBytes s i ++
          [BitVec.ofNat 8 (sectorNo t), if ∃ q ∈ s.queue t, q.index = i then 1 else 0] } := by
  simp only [cancelMoveAnswer, hok, if_true, hl, ha, Attachment.move?, putFlag_noticeQueued]
  rfl

end CancelMove

/-- The record whose move has ended is ACTIVE in its source and keeps its generation. -/
theorem record_cancelMoveOf_same {s : State} {i : RecIdx} {o : Occupant} {home t : SectorId} {hh n : Nat}
    (ho : s.occupant i = some o) (ha : o.attachment = .moving home hh t n) :
    (s.cancelMoveOf i).record i =
      { generation := (s.record i).generation, occupant := some { o with attachment := .active home hh } } := by
  rw [cancelMoveOf_of_moving ho ha, record_congr (withdraw_table _ t i), State.setOccupant, record_setRecord_same]

/-- Ending a move reaches no block but the records, the queues and the ports. -/
theorem cancelMoveOf_frame {s : State} {i : RecIdx} {o : Occupant} {home t : SectorId} {hh n : Nat}
    (ho : s.occupant i = some o) (ha : o.attachment = .moving home hh t n) :
    s.cancelMoveOf i = { s with
      table := (s.cancelMoveOf i).table, queues := (s.cancelMoveOf i).queues, ports := (s.cancelMoveOf i).ports } := by
  rw [cancelMoveOf_of_moving ho ha, withdraw_frame]
  rfl

/-- Settles O49: the two owners' answers case by case; the end of a move is `cancelMoveOf`, read block by block. -/
theorem noticesReadAndMovesCancelled : Obligations.NoticesReadAndMovesCancelled := by
  intro l k tag s hr hb
  have readAnswer {body : List Byte} {a : Answer} (ha : readNoticeAnswer body k s = a) :
      exec (.readNotice l tag body) s = .next (a.state.putResponse l (reply .readNotice tag a.status a.body)) :=
    next_serveBound_eq .readNotice (readNoticeAnswer body) hr hb ha
  have cancelAnswer {body : List Byte} {a : Answer} (ha : cancelMoveAnswer body k s = a) :
      exec (.cancelMove l tag body) s = .next (a.state.putResponse l (reply .cancelMove tag a.status a.body)) :=
    next_serveBound_eq .cancelMove (cancelMoveAnswer body) hr hb ha
  refine ⟨⟨fun body hbody => readAnswer (readNoticeAnswer_of_body k s hbody),
      fun hq => readAnswer (readNoticeAnswer_of_empty hq), fun n rest hq => ?read⟩,
    fun body hlen => cancelAnswer (cancelMoveAnswer_of_length k s hlen), fun h =>
      ⟨fun hbad => cancelAnswer (cancelMoveAnswer_of_badHandle (handleOk_of_not_mem hbad)), fun h1 h127 => ?_⟩⟩
  case read =>
    exact ⟨s.setQueue k rest, readAnswer (readNoticeAnswer_of_cons hq),
      (setQueue_queue s k k rest).trans (if_pos rfl),
      fun j hj => (setQueue_queue s k j rest).trans (if_neg hj),
      port_setQueue_bound hb rest,
      fun j hj => port_setQueue_other hb rest hj,
      setQueue_frame s k rest⟩
  have hok : handleOk h.toNat = true := handleOk_of_mem h1 h127
  refine ⟨fun hl => cancelAnswer (cancelMoveAnswer_of_noRecord hok hl), fun i o hl =>
    ⟨fun hm => cancelAnswer (cancelMoveAnswer_of_settled hok hl hm), fun home hh t n ha => ?_⟩⟩
  obtain ⟨ho, -⟩ := lookup_some hl
  exact ⟨s.cancelMoveOf i, cancelAnswer (cancelMoveAnswer_of_moving hok hl ha),
    record_cancelMoveOf_same ho ha,
    fun j hj => cancelMoveOf_record_other s hj,
    cancelMoveOf_queue ho,
    onlyHandover_cancelMoveOf s i,
    cancelMoveOf_frame ho ha⟩

/-! ### CLAIM: the checks (R143) -/

/-- A body that is not an id and a handle is refused. -/
theorem claimAnswer_of_length {body : List Byte} (t : SectorId) (s : State) (h : body.length ≠ 4) :
    claimAnswer body t s = refuse s .range [] := by
  unfold claimAnswer
  split
  · exact absurd rfl h
  · rfl

section Claim

variable {s : State} {t : SectorId} {i0 i1 i2 h : Byte}

/-- A handle out of range is refused before anything is looked up. -/
theorem claimAnswer_of_badHandle (hh : handleOk h.toNat = false) :
    claimAnswer [i0, i1, i2, h] t s = refuse s .range [] := by
  simp only [claimAnswer, hh, Bool.false_eq_true, if_false]

/-- CLAIM of an id no record holds is refused. -/
theorem claimAnswer_of_unused (hh : handleOk h.toNat = true) (hu : IdUnused s (field24 i0 i1 i2)) :
    claimAnswer [i0, i1, i2, h] t s = refuse s .notMoving [] := by
  simp only [claimAnswer, hh, if_true, findById_of_unused hu]

/-- CLAIM of a held id goes on to the checks of its record. -/
theorem claimAnswer_of_holds {i : RecIdx} {o : Occupant} (hh : handleOk h.toNat = true) (hi : Holds s i o)
    (hid : o.id = field24 i0 i1 i2) :
    claimAnswer [i0, i1, i2, h] t s = claimChecked s t h.toNat i o := by
  simp only [claimAnswer, hh, if_true, ← hid, findById_of_holds hi]

end Claim

section ClaimChecks

variable {s : State} {t : SectorId} {h : Nat} {i : RecIdx} {o : Occupant}

/-- An ADMITTED record is refused. -/
theorem claimChecked_of_unbound (ha : o.attachment = .unbound) :
    claimChecked s t h i o = refuse s .notMoving [] := by
  rw [claimChecked, ha]

variable {k : SectorId} {hh : Nat}

/-- An ACTIVE record whose lapse mark names the sector is refused as too late, with where it is. -/
theorem claimChecked_of_lapsed (ha : o.attachment = .active k hh) (hl : o.lapse = some t) :
    claimChecked s t h i o =
      refuse s .tooLate (recordBytes s i ++ [BitVec.ofNat 8 (sectorNo k), BitVec.ofNat 8 hh]) := by
  simp only [claimChecked, ha, if_pos hl]
  rfl

/-- Any other ACTIVE record is refused. -/
theorem claimChecked_of_active (ha : o.attachment = .active k hh) (hl : o.lapse ≠ some t) :
    claimChecked s t h i o = refuse s .notMoving [] := by
  simp only [claimChecked, ha, if_neg hl]

variable {t' : SectorId} {n : Nat}

/-- A record that is MOVING to another sector is refused. -/
theorem claimChecked_of_otherTarget (ha : o.attachment = .moving k hh t' n) (ht : t' ≠ t) :
    claimChecked s t h i o = refuse s .notMoving [] := by
  simp only [claimChecked, ha, if_neg ht]

/-- A handle that the claiming sector's map holds is refused with the index of its record. -/
theorem claimChecked_of_handleEntry {e : MapEntry} (ha : o.attachment = .moving k hh t n)
    (he : s.handleEntry t h = some e) :
    claimChecked s t h i o = refuse s .handleInUse [BitVec.ofNat 8 e.index.val] := by
  simp only [claimChecked, ha, if_true, he]
  rfl

/-- A record that is MOVING to the sector is taken under a free handle. -/
theorem claimChecked_of_free (ha : o.attachment = .moving k hh t n)
    (hfree : ∀ e ∈ (s.sector t).map, e.handle ≠ h) :
    claimChecked s t h i o = claimTaken s k t hh h i o := by
  simp only [claimChecked, ha, if_true, handleEntry_none hfree]

end ClaimChecks

/-! ### CLAIM: what a claim taken leaves (R144) -/

/-- The state of a CLAIM before the notice is withdrawn and the grants are marked void: the record has left its source
and joined the claiming sector (`claimTaken_state`). -/
def State.rehomed (s : State) (k t : SectorId) (oldHandle newHandle : Nat) (i : RecIdx) (o : Occupant) : State :=
  let left := s.setSector k ((s.sector k).leave oldHandle i)
  (left.setSector t ((left.sector t).join newHandle i (s.record i).generation)).setOccupant i
    (some { o with attachment := .active t newHandle })

section ClaimTaken

variable (s : State) (k t : SectorId) (oldHandle newHandle : Nat) (i : RecIdx) (o : Occupant)

/-- After the record's change of sector its notice is withdrawn and its grants in the source's list are void. -/
theorem claimTaken_state :
    (claimTaken s k t oldHandle newHandle i o).state =
      ((s.rehomed k t oldHandle newHandle i o).withdraw t i).voidWhere (sourceGrant k i (s.record i).generation) :=
  rfl

/-- The record is ACTIVE in the claiming sector and keeps its generation. -/
theorem record_claimTaken_same :
    (claimTaken s k t oldHandle newHandle i o).state.record i =
      { generation := (s.record i).generation
        occupant := some { o with attachment := .active t newHandle } } := by
  rw [claimTaken_state, record_congr (voidWhere_table _ _), record_congr (withdraw_table _ t i), State.rehomed,
    State.setOccupant, record_setRecord_same]
  rfl

/-- The other records are as they were. -/
theorem record_claimTaken_other {j : RecIdx} (hj : j ≠ i) :
    (claimTaken s k t oldHandle newHandle i o).state.record j = s.record j := by
  rw [claimTaken_state, record_congr (voidWhere_table _ _), record_congr (withdraw_table _ t i), State.rehomed,
    State.setOccupant, record_setRecord_other _ _ hj]
  rfl

/-- The sectors are as the record's change of sector leaves them. -/
theorem claimTaken_sectors :
    (claimTaken s k t oldHandle newHandle i o).state.sectors = (s.rehomed k t oldHandle newHandle i o).sectors := by
  rw [claimTaken_state, voidWhere_sectors, withdraw_sectors]

/-- The notice is gone from the queue of the claiming sector, and no other queue changes. -/
theorem noticeWithdrawn_claimTaken {a : Attachment} {n : Nat} (ha : a = .moving k oldHandle t n) :
    NoticeWithdrawn s i a (claimTaken s k t oldHandle newHandle i o).state := by
  intro j
  have hto : a.movesTo j = true ↔ j = t := by
    rw [ha]
    exact decide_eq_true_iff.trans eq_comm
  simp only [claimTaken_state, queue_congr (voidWhere_queues _ _), withdraw_queue, hto]
  by_cases hj : j = t
  · subst hj; rw [if_pos rfl, if_pos rfl]; rfl
  · rw [if_neg hj, if_neg hj]; rfl

/-- CLAIM reaches no port but by HANDOVER. -/
theorem onlyHandover_claimTaken : OnlyHandover s (claimTaken s k t oldHandle newHandle i o).state :=
  onlyHandover_withdraw (s.rehomed k t oldHandle newHandle i o) t i

/-- The grants that CLAIM marks void are those for the record in its source's list. -/
theorem sourceGrant_eq (generation : Nat) :
    sourceGrant k i generation = fun j g => decide (j = k) && isFor i generation g := by
  rw [← grantFor_eq]
  rfl

/-- CLAIM reaches no block but the records, the sectors, the queues, the ports and the void flags. -/
theorem claimTaken_frame :
    (claimTaken s k t oldHandle newHandle i o).state = { s with
      table := (claimTaken s k t oldHandle newHandle i o).state.table
      sectors := (claimTaken s k t oldHandle newHandle i o).state.sectors
      queues := (claimTaken s k t oldHandle newHandle i o).state.queues
      ports := (claimTaken s k t oldHandle newHandle i o).state.ports
      live := liveVoided (fun j g => decide (j = k) && isFor i (s.record i).generation g) s.live
      next := nextVoided (fun j g => decide (j = k) && isFor i (s.record i).generation g) s.next } := by
  rw [claimTaken_state, voidWhere_eq, sourceGrant_eq, withdraw_frame]
  rfl

end ClaimTaken

/-- Settles O50: the owner's answer in the order of R143's checks, and the state CLAIM leaves, read block by block. -/
theorem claimMovesTheRecord : Obligations.ClaimMovesTheRecord := by
  intro l t tag s hr hb
  have answer {body : List Byte} {a : Answer} (ha : claimAnswer body t s = a) :
      exec (.claim l tag body) s = .next (a.state.putResponse l (reply .claim tag a.status a.body)) :=
    next_serveBound_eq .claim (claimAnswer body) hr hb ha
  refine ⟨fun body hlen => answer (claimAnswer_of_length t s hlen), fun i0 i1 i2 h =>
    ⟨fun hbad => answer (claimAnswer_of_badHandle (handleOk_of_not_mem hbad)), fun h1 h127 => ?_⟩⟩
  have hok : handleOk h.toNat = true := handleOk_of_mem h1 h127
  refine ⟨fun hu => answer (claimAnswer_of_unused hok hu), fun i o hi hid => ?_⟩
  have hrec := claimAnswer_of_holds (t := t) hok hi hid
  refine ⟨fun ha => answer (hrec.trans (claimChecked_of_unbound ha)), fun k hh ha =>
    ⟨fun hl => answer (hrec.trans (claimChecked_of_lapsed ha hl)),
      fun hl => answer (hrec.trans (claimChecked_of_active ha hl))⟩, fun k hh t' n ha =>
    ⟨fun ht => answer (hrec.trans (claimChecked_of_otherTarget ha ht)), ?target⟩⟩
  case target =>
    rintro rfl
    refine ⟨fun e he => answer (hrec.trans (claimChecked_of_handleEntry ha he)), fun hfree => ?_⟩
    exact ⟨(claimTaken s k t' hh h.toNat i o).state, answer (hrec.trans (claimChecked_of_free ha hfree)),
      record_claimTaken_same s k t' hh _ i o,
      fun j hj => record_claimTaken_other s k t' hh _ i o hj,
      claimTaken_sectors s k t' hh _ i o,
      noticeWithdrawn_claimTaken s k t' hh _ i o ha,
      onlyHandover_claimTaken s k t' hh _ i o,
      claimTaken_frame s k t' hh _ i o⟩

end Sys2Proof.Machine
end

section
/-! Proofs of the statements of the control links (chapter 10): the outcome of a select period, FETCH, and the right and
the binding that a request needs. -/

namespace Sys2Proof.Machine

open Sys2Proof.Safety

/-! ### Complete bytes and sums (R151, R152) -/

/-- Fewer than eight bits hold no complete byte. -/
theorem completeBytes_of_length_lt {bits : List Bool} (h : bits.length < 8) : completeBytes bits = [] := by
  unfold completeBytes
  split
  · simp only [List.length_cons] at h; omega
  · rfl

/-- The bits of a run of bytes and the start of one byte more hold those bytes (R151). -/
theorem completeBytes_bitsOfBytes_append (bytes : List Byte) {rest : List Bool} (h : rest.length < 8) :
    completeBytes (bitsOfBytes bytes ++ rest) = bytes := by
  induction bytes with
  | nil => exact completeBytes_of_length_lt h
  | cons b more ih =>
    have hbits : bitsOfBytes (b :: more) = bitsOfByte b ++ bitsOfBytes more := rfl
    rw [hbits, bitsOfByte]
    simp only [List.cons_append, List.nil_append, completeBytes, byteOfBits_bits, ih]

/-- The sum a telegram is checked with is the sum of its bytes modulo 256 (R152). -/
theorem toNat_byteSum (bytes : List Byte) : (byteSum bytes).toNat = byteTotal bytes % 256 := by
  induction bytes with
  | nil => rfl
  | cons b rest ih =>
    have hsum : byteSum (b :: rest) = b + byteSum rest := by
      rw [← List.singleton_append, byteSum_append]; simp [byteSum]
    have htotal : byteTotal (b :: rest) = b.toNat + byteTotal rest := List.sum_cons
    rw [hsum, htotal, BitVec.toNat_add, ih, Nat.add_mod_mod]

/-- A checksum holds when the bytes sum to 0 modulo 256 (R152). -/
theorem byteSum_eq_zero_iff (bytes : List Byte) : byteSum bytes = 0 ↔ byteTotal bytes % 256 = 0 := by
  rw [← toNat_byteSum, BitVec.toNat_eq]
  rfl

/-- A kind value up to 29 names a request (R166). -/
theorem exists_ofCode {n : Nat} (h : n ≤ 29) : ∃ kind, ReqKind.ofCode n = some kind := by
  interval_cases n <;> exact ⟨_, rfl⟩

/-! ### The lines of R154's table -/

section Lines

variable {p : Port} {kind tag len : Byte} {rest : List Byte}

/-- A period that has timed out ends in HOLD_TIMEOUT whatever it clocked in. -/
theorem outcome_of_timedOut (h : p.timedOut = true) : p.outcome = .linkError .holdTimeout := if_pos h

/-- A period without a complete byte has no outcome to act on. -/
theorem outcome_of_noByte (ht : p.timedOut = false) (hb : completeBytes p.bitsIn = []) : p.outcome = .nothing := by
  simp only [Port.outcome, ht, hb]; rfl

/-- Bits past the last complete byte spoil the period. -/
theorem outcome_of_brokenByte (ht : p.timedOut = false) (hb : completeBytes p.bitsIn ≠ [])
    (hm : p.bitsIn.length % 8 ≠ 0) : p.outcome = .linkError .framing := by
  obtain ⟨b, more, hb⟩ := List.exists_cons_of_ne_nil hb
  simp only [Port.outcome, ht, hb, if_pos hm]; rfl

/-- Bytes that end before the length byte are no telegram. -/
theorem outcome_of_short (ht : p.timedOut = false) (hb : completeBytes p.bitsIn ≠ [])
    (hm : p.bitsIn.length % 8 = 0) (hl : (completeBytes p.bitsIn).length < 3) : p.outcome = .linkError .framing := by
  rcases hc : completeBytes p.bitsIn with _ | ⟨b0, _ | ⟨b1, _ | ⟨b2, more⟩⟩⟩
  · exact absurd hc hb
  · simp only [Port.outcome, ht, hc, hm]; rfl
  · simp only [Port.outcome, ht, hc, hm]; rfl
  · rw [hc] at hl; simp only [List.length_cons] at hl; omega

/-- Whole bytes that reach the length byte are judged as a telegram. -/
theorem outcome_of_header (ht : p.timedOut = false) (hm : p.bitsIn.length % 8 = 0)
    (hb : completeBytes p.bitsIn = kind :: tag :: len :: rest) : p.outcome = telegramOutcome kind tag len rest := by
  simp only [Port.outcome, ht, hb, hm]; rfl

/-- A length byte above 60 is judged before the bytes that follow it. -/
theorem telegramOutcome_of_badLength (h : 60 < len.toNat) :
    telegramOutcome kind tag len rest = .linkError .badLength := if_pos h

/-- A telegram without its checksum byte, or with less, is no whole telegram. -/
theorem telegramOutcome_of_short (h : len.toNat ≤ 60) (hl : (kind :: tag :: len :: rest).length < 4 + len.toNat) :
    telegramOutcome kind tag len rest = .linkError .framing := by
  have hrest : rest.length < len.toNat + 1 := by simp only [List.length_cons] at hl; omega
  rw [telegramOutcome, if_neg (by omega), if_pos hrest]

/-- A telegram all there is judged by the sum of its bytes, and then by its kind value. -/
theorem telegramOutcome_of_whole (h : len.toNat ≤ 60)
    (hl : 4 + len.toNat ≤ (kind :: tag :: len :: rest).length) :
    telegramOutcome kind tag len rest =
      if byteSum ((kind :: tag :: len :: rest).take (4 + len.toNat)) ≠ 0 then .linkError .badChecksum
      else ((ReqKind.ofCode kind.toNat).map fun k => PeriodOutcome.request k tag (rest.take len.toNat)).getD
        (.linkError .unknownKind) := by
  have hrest : ¬rest.length < len.toNat + 1 := by simp only [List.length_cons] at hl; omega
  have htake : (kind :: tag :: len :: rest).take (4 + len.toNat) = kind :: tag :: len :: rest.take (len.toNat + 1) := by
    rw [show 4 + len.toNat = len.toNat + 1 + 3 by omega]; rfl
  rw [telegramOutcome, if_neg (by omega), if_neg hrest, htake]
  cases ReqKind.ofCode kind.toNat <;> rfl

theorem telegramOutcome_of_badChecksum (h : len.toNat ≤ 60)
    (hl : 4 + len.toNat ≤ (kind :: tag :: len :: rest).length)
    (hs : byteSum ((kind :: tag :: len :: rest).take (4 + len.toNat)) ≠ 0) :
    telegramOutcome kind tag len rest = .linkError .badChecksum := by
  rw [telegramOutcome_of_whole h hl, if_pos hs]

theorem telegramOutcome_of_unknownKind (h : len.toNat ≤ 60)
    (hl : 4 + len.toNat ≤ (kind :: tag :: len :: rest).length)
    (hs : byteSum ((kind :: tag :: len :: rest).take (4 + len.toNat)) = 0) (hk : 29 < kind.toNat) :
    telegramOutcome kind tag len rest = .linkError .unknownKind := by
  rw [telegramOutcome_of_whole h hl, if_neg (not_not.mpr hs), ofCode_none hk]; rfl

theorem telegramOutcome_of_request {k : ReqKind} (h : len.toNat ≤ 60)
    (hl : 4 + len.toNat ≤ (kind :: tag :: len :: rest).length)
    (hs : byteSum ((kind :: tag :: len :: rest).take (4 + len.toNat)) = 0) (hk : ReqKind.ofCode kind.toNat = some k) :
    telegramOutcome kind tag len rest = .request k tag (rest.take len.toNat) := by
  rw [telegramOutcome_of_whole h hl, if_neg (not_not.mpr hs), hk]; rfl

end Lines

/-! ### The release of a period (R154, R156) -/

@[simp] theorem shift_selected (p : Port) (bits : List Bool) : (p.shift bits).selected = p.selected := by
  unfold Port.shift; split <;> rfl
@[simp] theorem shift_timedOut (p : Port) (bits : List Bool) : (p.shift bits).timedOut = p.timedOut := by
  unfold Port.shift; split <;> rfl
@[simp] theorem shift_errors (p : Port) (bits : List Bool) : (p.shift bits).errors = p.errors := by
  unfold Port.shift; split <;> rfl
@[simp] theorem shift_causes (p : Port) (bits : List Bool) : (p.shift bits).causes = p.causes := by
  unfold Port.shift; split <;> rfl

/-- Bits clocked in before a timeout follow those of the period so far (R151). -/
theorem shift_bitsIn {p : Port} (bits : List Bool) (h : p.timedOut = false) :
    (p.shift bits).bitsIn = p.bitsIn ++ bits := by
  simp only [Port.shift, h]; rfl

/-- The counter of a link error's status rises by 1 (R156). -/
theorem raise_eq_counterRaised (e : Errors) (st : Status) : e.raise st = counterRaised e st := by
  cases st <;> rfl

/-- The port after a link error and the release (R156). -/
theorem finish_linkError (p : Port) (st : Status) :
    (p.linkError st).finish = faulted p (completeBytes p.bitsIn) st := by
  simp only [Port.linkError, raise_eq_counterRaised]
  rfl

/-- The state in which a select period of a link ends, `p` being the port with all bits of the period clocked, by the
outcome of the period (`exec_selectRelease`). -/
def periodEnd (s : State) (l : Link) (p : Port) : PeriodOutcome → State
  | .nothing => s.setPort l p.finish
  | .linkError st => s.setPort l (faulted p (completeBytes p.bitsIn) st)
  | .request kind tag body => takeRequest kind l tag body (s.setPort l p.finish)

/-- SELECT_RELEASE clocks its bits and ends the period by its outcome (R154). -/
theorem exec_selectRelease {s : State} {l : Link} {bits : List Bool} {o : PeriodOutcome}
    (hs : (s.port l).selected = true) (ho : ((s.port l).shift bits).outcome = o) :
    exec (.selectRelease l bits) s = .next (periodEnd s l ((s.port l).shift bits) o) := by
  have hclock : s.clockLink l bits = s.setPort l ((s.port l).shift bits) := if_pos hs
  have hsel : ((s.port l).shift bits).selected = true := by rw [shift_selected, hs]
  change Host.Outcome.next ((s.clockLink l bits).releaseSelect l) = _
  rw [hclock]
  unfold State.releaseSelect
  simp only [port_setPort_same, setPort_setPort, hsel, if_true, ho]
  cases o with
  | nothing => rfl
  | linkError st => exact congrArg (fun q => Host.Outcome.next (s.setPort l q)) (finish_linkError _ st)
  | request kind tag body => rfl

/-- A period that carried a request ends as that request's row (R154). -/
theorem exec_selectRelease_of_request {s : State} {l : Link} {bits : List Bool} {kind : ReqKind} {tag : Byte}
    {body : List Byte} (hs : (s.port l).selected = true)
    (ho : ((s.port l).shift bits).outcome = .request kind tag body) :
    ∃ c, c.request? = some (kind, l, tag, body) ∧
      exec (.selectRelease l bits) s = exec c (s.setPort l ((s.port l).shift bits).finish) := by
  obtain ⟨c, hc⟩ := exists_row kind l tag body
  exact ⟨c, hc, by rw [exec_selectRelease hs ho, exec_eq_takeRequest hc]; rfl⟩

/-- Settles O27, a lemma for each line of R154's table. -/
theorem releaseFollowsTheLines : Obligations.ReleaseFollowsTheLines := by
  refine ⟨fun bytes _ h => completeBytes_bitsOfBytes_append bytes h, byteSum_eq_zero_iff, fun s l bits hs => ?_⟩
  refine ⟨fun ht => exec_selectRelease hs (outcome_of_timedOut ht), fun ht =>
    ⟨fun hb => exec_selectRelease hs (outcome_of_noByte ht hb),
      fun hb hm => exec_selectRelease hs (outcome_of_brokenByte ht hb hm), fun hb hm =>
    ⟨fun hl => exec_selectRelease hs (outcome_of_short ht hb hm hl), fun kind tag len rest hbytes => ?_⟩⟩⟩
  have hout := outcome_of_header ht hm hbytes
  rw [hbytes]
  have fails {st : Status} (h : telegramOutcome kind tag len rest = .linkError st) :
      exec (.selectRelease l bits) s =
        .next (s.setPort l (faulted ((s.port l).shift bits) (kind :: tag :: len :: rest) st)) := by
    rw [exec_selectRelease hs (hout.trans h), periodEnd, hbytes]
  refine ⟨fun h60 => fails (telegramOutcome_of_badLength h60), fun h60 =>
    ⟨fun hl => fails (telegramOutcome_of_short h60 hl), fun hl =>
    ⟨fun hsum => fails (telegramOutcome_of_badChecksum h60 hl hsum), fun hsum =>
    ⟨fun hk => fails (telegramOutcome_of_unknownKind h60 hl hsum hk), fun hk => ?_⟩⟩⟩⟩
  obtain ⟨k, hcode⟩ := exists_ofCode hk
  obtain ⟨c, hc, hexec⟩ :=
    exec_selectRelease_of_request hs (hout.trans (telegramOutcome_of_request h60 hl hsum hcode))
  exact ⟨c, k, hc, code_of_ofCode hcode, hexec⟩

/-! ### FETCH (R158) -/

/-- FETCH empties the buffer of its link and reaches nothing else (R157, R158). -/
theorem exec_fetch (l : Link) (tag : Byte) (body : List Byte) (s : State) :
    exec (.fetch l tag body) s = .next (s.setPort l { s.port l with buffer := none }) := rfl

/-- A period that carried a FETCH ends with the buffer empty (R157, R158). -/
theorem periodEnd_fetch (s : State) (l : Link) (p : Port) (tag : Byte) (body : List Byte) :
    periodEnd s l p (.request .fetch tag body) = s.setPort l { p.finish with buffer := none } := by
  simp only [periodEnd, takeRequest, takeFetch, port_setPort_same, setPort_setPort]

/-- A period that clocked in four bytes 0 carried a FETCH (R158). -/
theorem outcome_of_fourZeroBytes {p : Port} (ht : p.timedOut = false) (hb : p.bitsIn = List.replicate 32 false) :
    p.outcome = .request .fetch 0 [] := by
  have hbytes : completeBytes p.bitsIn = [0, 0, 0, 0] := by rw [hb]; rfl
  have hwhole : p.bitsIn.length % 8 = 0 := by rw [hb]; rfl
  rw [outcome_of_header ht hwhole hbytes]
  exact telegramOutcome_of_request (by decide) (by decide) (by decide) rfl

/-- Settles O29: the row, and the release of a period that clocked in the four bytes. -/
theorem fetchEmptiesTheBuffer : Obligations.FetchEmptiesTheBuffer := by
  refine ⟨exec_fetch, by decide, fun l s hs ht hb => ?_⟩
  have ht' : ((s.port l).shift (List.replicate 32 false)).timedOut = false := by rw [shift_timedOut, ht]
  have hb' : ((s.port l).shift (List.replicate 32 false)).bitsIn = List.replicate 32 false := by
    rw [shift_bitsIn _ ht, hb, List.nil_append]
  refine ⟨_, exec_selectRelease hs (outcome_of_fourZeroBytes ht' hb'), ?_⟩
  rw [periodEnd_fetch, port_setPort_same]
  exact ⟨rfl, rfl, fun j hj => port_setPort_other s _ hj, shift_errors _ _, shift_causes _ _⟩

/-! ### The right and the binding of a request (R159) -/

/-- The requests that act on the bound sector of their link (R159). -/
def boundKinds : List ReqKind :=
  [.releaseSector, .attach, .detach, .demandBatch, .move, .cancelMove, .claim, .readNotice, .readGrants]

/-- The right is checked before the binding. -/
theorem serveBound_denied {s : State} {kind : ReqKind} {l : Link} (tag : Byte) (owner : SectorId → State → Answer)
    (h : (s.rights l).allow (rightNeeded kind) = false) :
    s.serveBound kind l tag owner = s.putResponse l (reply kind tag .noRight []) := serve_denied tag _ h

/-- Every request that needs a right is refused NO_RIGHT without it, and changes nothing else. -/
theorem takeRequest_of_denied {kind : ReqKind} {l : Link} {s : State} (tag : Byte) (body : List Byte)
    (h : (s.rights l).allow (rightNeeded kind) = false) :
    takeRequest kind l tag body s = s.putResponse l (reply kind tag .noRight []) := by
  cases kind with
  | fetch => cases h
  | releaseSector | attach | detach | demandBatch | readGrants | move | readNotice | claim | cancelMove =>
    exact serveBound_denied tag _ h
  | _ => exact serve_denied tag _ h

/-- A request on the bound sector is served with its binding checked after its right. -/
theorem takeRequest_eq_serveBound {kind : ReqKind} (h : kind ∈ boundKinds) (l : Link) (tag : Byte) (body : List Byte)
    (s : State) : ∃ owner, takeRequest kind l tag body s = s.serveBound kind l tag owner := by
  simp only [boundKinds, List.mem_cons, List.not_mem_nil, or_false] at h
  rcases h with rfl | rfl | rfl | rfl | rfl | rfl | rfl | rfl | rfl <;> exact ⟨_, rfl⟩

section Refusals

variable {c : Instr} {kind : ReqKind} {l : Link} {tag : Byte} {body : List Byte} {s : State} {kinds : List ReqKind}
  {need : Need}

/-- A request of a group whose right its link lacks is refused NO_RIGHT and changes nothing else. -/
theorem exec_of_noRight (hc : c.request? = some (kind, l, tag, body)) (hk : kind ∈ kinds)
    (hneed : ∀ k ∈ kinds, rightNeeded k = need) (hr : (s.rights l).allow need = false) :
    exec c s = .next (s.putResponse l (reply kind tag .noRight [])) := by
  rw [← hneed kind hk] at hr
  rw [exec_eq_takeRequest hc, takeRequest_of_denied tag body hr]

/-- A request on the bound sector, from a link with the right that is bound to none, is refused NOT_BOUND and changes
nothing else. -/
theorem exec_of_notBound (hc : c.request? = some (kind, l, tag, body)) (hk : kind ∈ kinds)
    (hneed : ∀ k ∈ kinds, k ∈ boundKinds ∧ rightNeeded k = need) (hr : (s.rights l).allow need = true)
    (hb : Unbound s l) : exec c s = .next (s.putResponse l (reply kind tag .notBound [])) := by
  obtain ⟨hbound, hn⟩ := hneed kind hk
  obtain ⟨owner, hserve⟩ := takeRequest_eq_serveBound hbound l tag body s
  rw [exec_eq_takeRequest hc, hserve, serveBound_unbound tag owner (hn ▸ hr) hb]

end Refusals

/-! ### The requests that need no right (R159) -/

/-- A status that does not say that the right or the binding is lacking. -/
def OnItsMerits (st : Status) : Prop := st ≠ .noRight ∧ st ≠ .notBound

theorem onItsMerits_ok : OnItsMerits .ok := by simp [OnItsMerits]
theorem onItsMerits_range : OnItsMerits .range := by simp [OnItsMerits]
theorem onItsMerits_noSubscriber : OnItsMerits .noSubscriber := by simp [OnItsMerits]

theorem onItsMerits_readPolicy (body : List Byte) (s : State) : OnItsMerits (readPolicyAnswer body s).status := by
  unfold readPolicyAnswer
  split
  · split
    · exact onItsMerits_ok
    · exact onItsMerits_ok
    · exact onItsMerits_ok
    · exact onItsMerits_range
  · exact onItsMerits_range

theorem onItsMerits_readTiming (l : Link) (body : List Byte) (s : State) :
    OnItsMerits (readTimingAnswer l body s).status := by
  cases body with
  | nil => exact onItsMerits_ok
  | cons => exact onItsMerits_range

theorem onItsMerits_readSubscriber (body : List Byte) (s : State) :
    OnItsMerits (readSubscriberAnswer body s).status := by
  unfold readSubscriberAnswer withSubscriber
  split
  · split
    · exact onItsMerits_noSubscriber
    · exact onItsMerits_ok
  · exact onItsMerits_range

theorem onItsMerits_readSectors (body : List Byte) (s : State) : OnItsMerits (readSectorsAnswer body s).status := by
  cases body with
  | nil => exact onItsMerits_ok
  | cons => exact onItsMerits_range

theorem onItsMerits_readAttention (l : Link) (body : List Byte) (s : State) :
    OnItsMerits (readAttentionAnswer l body s).status := by
  cases body with
  | nil => exact onItsMerits_ok
  | cons => exact onItsMerits_range

theorem onItsMerits_readLinkStatus (l : Link) (body : List Byte) (s : State) :
    OnItsMerits (readLinkStatusAnswer l body s).status := by
  cases body with
  | nil => exact onItsMerits_ok
  | cons => exact onItsMerits_range

/-- A request that needs no right leaves its owner's status in the buffer. -/
theorem status_of_serve {kind : ReqKind} {l : Link} {tag : Byte} {owner : State → Answer} {s : State} {r : Response}
    (hn : rightNeeded kind = .nothing) (hr : ((s.serve kind l tag owner).port l).buffer = some r) :
    r.status = (owner s).status := by
  rw [serve_allowed tag owner (by rw [hn]; rfl), port_putResponse_same] at hr
  cases hr
  rfl

/-- A request that needs no right is not refused for a right or a binding: FETCH leaves no response, and the owners of
the others answer on the merits. -/
theorem onItsMerits_of_noNeed {kind : ReqKind} {l : Link} {tag : Byte} {body : List Byte} {s : State} {r : Response}
    (hn : rightNeeded kind = .nothing) (hr : ((takeRequest kind l tag body s).port l).buffer = some r) :
    OnItsMerits r.status := by
  cases kind with
  | fetch => rw [takeRequest, takeFetch, port_setPort_same] at hr; cases hr
  | readPolicy => rw [status_of_serve hn hr]; exact onItsMerits_readPolicy body s
  | readTiming => rw [status_of_serve hn hr]; exact onItsMerits_readTiming l body s
  | readSubscriber => rw [status_of_serve hn hr]; exact onItsMerits_readSubscriber body s
  | readSectors => rw [status_of_serve hn hr]; exact onItsMerits_readSectors body s
  | readAttention => rw [status_of_serve hn hr]; exact onItsMerits_readAttention l body s
  | readLinkStatus => rw [status_of_serve hn hr]; exact onItsMerits_readLinkStatus l body s
  | _ => cases hn

/-- Settles O30: a group's requests need the group's right, and each request is served with its right checked before
its binding. -/
theorem rightsAreCheckedFirst : Obligations.RightsAreCheckedFirst := by
  intro c kind l tag body s hc
  refine ⟨fun hk hr => exec_of_noRight hc hk (need := .policy) (by decide) hr,
    fun hk hr => exec_of_noRight hc hk (need := .sector) (by decide) hr,
    fun hk hr => exec_of_noRight hc hk (need := .read) (by decide) hr,
    fun hk hp hs => exec_of_noRight hc (List.mem_singleton.mpr hk) (need := .policyOrSector) (by decide) ?eitherRight,
    fun hk hr hb => exec_of_notBound hc hk (need := .sector) (by decide) hr hb,
    fun hk hr hb => exec_of_notBound hc (List.mem_singleton.mpr hk) (need := .read) (by decide) hr hb,
    fun hk t r ht hr => ?noRightNeeded⟩
  case eitherRight => rw [Rights.allow, hp, hs]; rfl
  case noRightNeeded =>
    have hn : ∀ k ∈ [ReqKind.fetch, .readPolicy, .readTiming, .readSubscriber, .readSectors, .readAttention,
      .readLinkStatus], rightNeeded k = .nothing := by decide
    rw [exec_eq_takeRequest hc] at ht
    cases ht
    exact onItsMerits_of_noNeed (hn kind hk) hr

end Sys2Proof.Machine
end

section
/-! Proofs of the statements of frame timing (chapter 2), the edges without a pulse: what one edge does, the quiet stretches
between events as runs of edges, and the rows that stand for them. -/

namespace Sys2Proof.Machine

open Sys2Proof.Safety

/-! ### One edge without a pulse (R19 to R25) -/

/-- In LOCKED an edge without a pulse before P + T starts no frame (R24). -/
theorem edgeLocked_advance {s : State} (h : s.ftu.count + 1 < s.ftu.inForce.p + s.ftu.inForce.t) :
    s.edgeLocked false = s.advance := by
  simp [State.edgeLocked, Nat.not_le.2 h]

/-- In LOCKED an edge without a pulse at P + T is the missed expiry (R24). -/
theorem edgeLocked_expiry {s : State} (h : s.ftu.inForce.p + s.ftu.inForce.t ≤ s.ftu.count + 1) :
    s.edgeLocked false = s.outstanding.expire.startFrame := by
  simp [State.edgeLocked, h]

/-- In FREE and HOLDOVER an edge without a pulse before P starts no frame (R22). -/
theorem edgeFree_advance {s : State} (hf : s.ftu.fresh = false) (h : s.ftu.count + 1 < s.ftu.inForce.p) :
    s.edgeFree false = s.advance := by
  simp [State.edgeFree, hf, Nat.not_le.2 h]

/-- H as R25 raises it at a frame start in HOLDOVER. -/
theorem raiseH_eq (f : Ftu) : f.raiseH = hRaised f := by
  rcases f with ⟨_ | _ | _⟩ <;> rfl

/-- In FREE and HOLDOVER the edge at P, and the first edge after reset, start a frame, and a pulse is then good (R22, R25,
R31, R34). -/
theorem edgeFree_ownStart {s : State} (h : s.ftu.fresh = true ∨ s.ftu.inForce.p ≤ s.ftu.count + 1) (pulse : Bool) :
    s.edgeFree pulse =
      let u := ({ s with ftu := hRaised s.ftu } : State).startFrame
      if pulse = true then u.goodPulse s.ftu.inForce.k else u := by
  simp only [State.edgeFree, if_pos h, raiseH_eq]

/-- An edge without a pulse on which the frame goes on advances the count. -/
theorem edge_of_goesOn {s : State} {level : Bool} (hp : NoPulse s level) (hg : FrameGoesOn s) :
    s.edge level = ({ s.ageBuild with ftu := quietMeasured s.ftu level } : State).advance := by
  obtain ⟨hfresh, hlocked, hfree⟩ := hg
  rw [edge_noPulse hp]
  cases hs : s.ftu.state with
  | locked => exact edgeLocked_advance (hlocked hs)
  | free => exact edgeFree_advance hfresh (hfree (by simp [hs]))
  | holdover => exact edgeFree_advance hfresh (hfree (by simp [hs]))

/-- The missed expiry: an edge without a pulse in LOCKED at P + T ends the frame (R24). -/
theorem edge_of_expiry {s : State} {level : Bool} (hp : NoPulse s level) (hs : s.ftu.state = .locked)
    (h : s.ftu.inForce.p + s.ftu.inForce.t ≤ s.ftu.count + 1) :
    s.edge level = ({ s.ageBuild with ftu := quietMeasured s.ftu level } : State).outstanding.expire.startFrame := by
  rw [edge_noPulse hp, hs]
  exact edgeLocked_expiry h

/-- In FREE and HOLDOVER an edge without a pulse at P, and the first edge after reset, start a frame (R22, R25, R34). -/
theorem edge_of_ownStart {s : State} {level : Bool} (hp : NoPulse s level) (hs : s.ftu.state ≠ .locked)
    (h : s.ftu.fresh = true ∨ s.ftu.inForce.p ≤ s.ftu.count + 1) :
    s.edge level = ({ s.ageBuild with ftu := hRaised (quietMeasured s.ftu level) } : State).startFrame := by
  rw [edge_noPulse hp]
  cases hst : s.ftu.state with
  | locked => exact absurd hst hs
  | free => exact edgeFree_ownStart (s := { s.ageBuild with ftu := quietMeasured s.ftu level }) h false
  | holdover => exact edgeFree_ownStart (s := { s.ageBuild with ftu := quietMeasured s.ftu level }) h false

/-- An edge without a pulse, the frame going on, leaves the FTU counting alone. -/
theorem edge_ftu_of_goesOn {s : State} {level : Bool} (hp : NoPulse s level) (hg : FrameGoesOn s) :
    (s.edge level).ftu = { quietMeasured s.ftu level with count := s.ftu.count + 1 } := by
  rw [edge_of_goesOn hp hg, advance_ftu]
  rfl

/-- No slot of 1 to 15 begins at the edge to come. -/
def NoBoundary (s : State) : Prop := ∀ k, 1 ≤ k → k ≤ 15 → slotCount s.ftu.inForce.p k ≠ s.ftu.count + 1

/-- An edge without a pulse, a slot boundary or a frame end moves the counts alone. -/
theorem edge_of_noBoundary {s : State} {level : Bool} (hp : NoPulse s level) (hg : FrameGoesOn s)
    (hb : NoBoundary s) :
    s.edge level =
      { s.ageBuild with ftu := { quietMeasured s.ftu level with count := s.ftu.count + 1 } } := by
  rw [edge_of_goesOn hp hg, State.advance]
  dsimp only [quietMeasured]
  rw [slotsDue_none_at hb]
  rfl

/-- Settles O5: with no boundary due, an edge on which the frame goes on moves the counts alone. -/
theorem quietEdgeCounts : Obligations.QuietEdgeCounts := by
  intro s level hp hg ht hb
  refine congrArg Host.Outcome.next ?_
  rw [edge_of_noBoundary hp hg hb, ageBuild_eq ht]
  rfl

/-- Settles O6: the one slot due at the edge is counted by the ports, and its number decides what else it does. -/
theorem slotBoundaryEvents : Obligations.SlotBoundaryEvents := by
  intro s level k hp hg ht hp16 h1 h15 hk
  have hedge : s.edge level = (counted s level).slotEvent k := by
    rw [edge_of_goesOn hp hg, ageBuild_eq ht, State.advance]
    dsimp only [quietMeasured]
    rw [slotsDue_next hp16 ⟨h1, h15⟩ hk]
    rfl
  have hexec : exec (.referenceClockEdge level) s = .next ((counted s level).slotEvent k) :=
    congrArg Host.Outcome.next hedge
  refine ⟨(counted s level).mapPorts fun _ p => p.countSlot, rfl, rfl, ?_, ?_, ?_, ?_⟩
  · intro l
    rw [port_mapPorts]
    show (s.port l).countSlot = _
    cases hsel : (s.port l).selected <;> cases hto : (s.port l).timedOut <;> simp [Port.countSlot, hsel, hto]
  all_goals
    rw [hexec]
    rcases slotEvent_cases (counted s level) k with ⟨ho, he⟩ | ⟨ho, hw, he⟩ | ⟨ho, hw, he⟩
  · exact fun _ => congrArg _ he
  · exact fun h => absurd h ho
  · exact fun h => absurd h ho
  · exact fun h => absurd ho h
  · exact fun _ _ => congrArg _ he
  · exact fun _ h => absurd h hw
  · exact fun h => absurd ho h
  · exact fun _ h => absurd hw h
  · exact fun _ _ => congrArg _ he

/-! ### Quiet stretches are runs of edges (log entry 6) -/

/-- With no build in flight nothing completes. -/
theorem complete_of_none {s : State} (h : s.builder = none) : s.complete = s := by
  unfold State.complete
  rw [h]

/-- A completing build does not read the FTU. -/
theorem complete_withFtu (s : State) (f : Ftu) : ({ s with ftu := f } : State).complete = { s.complete with ftu := f } := by
  rcases Option.eq_none_or_eq_some s.builder with hb | ⟨b, hb⟩
  · rw [complete_of_none hb, complete_of_none (s := { s with ftu := f }) hb]
  · unfold State.complete
    simp only [hb]
    rfl

/-- The Plan Builder's part of a quiet stretch: `n` edges older, or complete when that is past the limit (R102). -/
def State.ageBy (s : State) (n : Nat) : State :=
  match s.builder with
  | some b => if buildLimit < b.age + n then s.complete else { s with builder := some { b with age := b.age + n } }
  | none => s

/-- With no build in flight none gets older. -/
theorem ageBy_of_none {s : State} (h : s.builder = none) (n : Nat) : s.ageBy n = s := by
  unfold State.ageBy; rw [h]

/-- A build past its limit is complete. -/
theorem ageBy_of_late {s : State} {b : Build} {n : Nat} (h : s.builder = some b) (hn : buildLimit < b.age + n) :
    s.ageBy n = s.complete := by
  unfold State.ageBy; rw [h]; exact if_pos hn

/-- A build within its limit is `n` edges older. -/
theorem ageBy_of_time {s : State} {b : Build} {n : Nat} (h : s.builder = some b) (hn : b.age + n ≤ buildLimit) :
    s.ageBy n = { s with builder := some { b with age := b.age + n } } := by
  unfold State.ageBy; rw [h]; exact if_neg (by omega)

/-- A reference clock edge is a quiet stretch of one for the Plan Builder. -/
theorem ageBuild_eq_ageBy (s : State) : s.ageBuild = s.ageBy 1 := by
  unfold State.ageBuild State.ageBy
  rcases Option.eq_none_or_eq_some s.builder with hb | ⟨b, hb⟩
  · simp only [hb]
  · simp only [hb, Nat.lt_succ_iff]

/-- Aging does not read the FTU. -/
theorem ageBy_withFtu (s : State) (f : Ftu) (n : Nat) :
    ({ s with ftu := f } : State).ageBy n = { s.ageBy n with ftu := f } := by
  rcases Option.eq_none_or_eq_some s.builder with hb | ⟨b, hb⟩
  · rw [ageBy_of_none hb, ageBy_of_none (s := { s with ftu := f }) hb]
  · rcases Nat.lt_or_ge buildLimit (b.age + n) with hlim | hlim
    · rw [ageBy_of_late hb hlim, ageBy_of_late (s := { s with ftu := f }) hb hlim, complete_withFtu]
    · rw [ageBy_of_time hb hlim, ageBy_of_time (s := { s with ftu := f }) hb hlim]

/-- Aging leaves the FTU alone. -/
@[simp] theorem ageBy_ftu (s : State) (n : Nat) : (s.ageBy n).ftu = s.ftu := by
  unfold State.ageBy
  split
  · split <;> simp
  · rfl

/-- Completing a build some edges older is completing it. -/
theorem complete_withAge {s : State} {b : Build} (h : s.builder = some b) (age : Nat) :
    ({ s with builder := some { b with age := age } } : State).complete = s.complete := by
  unfold State.complete
  simp only [h]
  rfl

/-- Aging by `m` edges and then by `n` is aging by their sum. -/
theorem ageBy_ageBy (s : State) (m n : Nat) : (s.ageBy m).ageBy n = s.ageBy (m + n) := by
  rcases Option.eq_none_or_eq_some s.builder with hb | ⟨b, hb⟩
  · simp only [ageBy_of_none hb]
  · rcases Nat.lt_or_ge buildLimit (b.age + m) with hm | hm
    · rw [ageBy_of_late hb hm, ageBy_of_late (n := m + n) hb (by omega), ageBy_of_none (complete_builder s)]
    · rw [ageBy_of_time hb hm]
      rcases Nat.lt_or_ge buildLimit (b.age + (m + n)) with hmn | hmn
      · rw [ageBy_of_late hb hmn, ageBy_of_late (b := { b with age := b.age + m }) rfl (by dsimp only; omega),
          complete_withAge hb]
      · rw [ageBy_of_time hb hmn, ageBy_of_time (b := { b with age := b.age + m }) rfl (by dsimp only; omega),
          Nat.add_assoc]

/-- The FTU's part of a quiet stretch. -/
def Ftu.countBy (f : Ftu) (n : Nat) : Ftu :=
  { f with count := f.count + n, running := min (f.running + n) maxInterval, sampled := if n = 0 then f.sampled else false }

/-- A quiet stretch is its Plan Builder's part and its FTU's part. -/
theorem skip_eq (s : State) (n : Nat) : s.skip n = { s.ageBy n with ftu := s.ftu.countBy n } := by
  have h : s.skip n = { s.ageBy n with ftu := (s.ageBy n).ftu.countBy n } := rfl
  rw [h, ageBy_ftu]

/-- The edge after no quiet edges is the edge. -/
theorem edge_skip_zero (s : State) : (s.skip 0).edge false = s.edge false := by
  have hmeasure : (s.ftu.countBy 0).measure false false = s.ftu.measure false false := by
    simp only [Ftu.countBy, Ftu.measure, maxInterval, Ftu.mk.injEq, true_and, and_true, Bool.false_eq_true, if_false]
    omega
  rw [skip_eq, edge_noPulse (.inl rfl), edge_noPulse (.inl rfl)]
  simp only [ageBuild_eq_ageBy, ageBy_withFtu, ageBy_ageBy, hmeasure]
  rfl

/-- A quiet stretch whose first edge moves the counts alone begins with that edge. -/
theorem skip_succ {s : State} (n : Nat) (hg : FrameGoesOn s) (hb : NoBoundary s) :
    s.skip (n + 1) = (s.edge false).skip n := by
  have hcount : Ftu.countBy { quietMeasured s.ftu false with count := s.ftu.count + 1 } n = s.ftu.countBy (n + 1) := by
    simp only [Ftu.countBy, quietMeasured, maxInterval, Ftu.mk.injEq, true_and, and_true]
    refine ⟨by omega, by omega, by simp⟩
  simp only [edge_of_noBoundary (.inl rfl) hg hb, skip_eq, ageBuild_eq_ageBy, ageBy_withFtu, ageBy_ageBy,
    Nat.add_comm 1 n, hcount]

/-- The count at which the running frame ends when no pulse comes: P, or P + T in LOCKED (R22, R24). -/
def Ftu.frameEnd (f : Ftu) : Nat := if f.state = .locked then f.inForce.p + f.inForce.t else f.inForce.p

/-- After the first edge, the frame goes on up to its end. -/
theorem frameGoesOn_iff {s : State} (hf : s.ftu.fresh = false) : FrameGoesOn s ↔ s.ftu.count + 1 < s.ftu.frameEnd := by
  unfold FrameGoesOn Ftu.frameEnd
  by_cases h : s.ftu.state = .locked <;> simp [hf, h]

theorem period_le_frameEnd (f : Ftu) : f.inForce.p ≤ f.frameEnd := by
  unfold Ftu.frameEnd
  split <;> omega

/-- On the next `n` edges no slot of 1 to 15 begins and the frame goes on. -/
def QuietFor (s : State) (n : Nat) : Prop :=
  s.ftu.fresh = false ∧ s.ftu.count + n < s.ftu.frameEnd ∧
    ∀ k, 1 ≤ k → k ≤ 15 → s.ftu.count < slotCount s.ftu.inForce.p k → s.ftu.count + n < slotCount s.ftu.inForce.p k

/-- The first of several quiet edges moves the counts alone. -/
theorem QuietFor.first {s : State} {n : Nat} (h : QuietFor s (n + 1)) : FrameGoesOn s ∧ NoBoundary s := by
  obtain ⟨hf, hend, hslots⟩ := h
  refine ⟨(frameGoesOn_iff hf).2 (by omega), fun k h1 h15 hk => ?_⟩
  have := hslots k h1 h15 (by omega)
  omega

/-- After the first of several quiet edges the others are still quiet. -/
theorem QuietFor.rest {s : State} {n : Nat} (h : QuietFor s (n + 1)) : QuietFor (s.edge false) n := by
  have hftu := edge_ftu_of_goesOn (.inl rfl) h.first.1
  obtain ⟨hf, hend, hslots⟩ := h
  simp only [QuietFor, hftu, quietMeasured, Ftu.frameEnd] at *
  exact ⟨hf, by omega, fun k h1 h15 hk => by have := hslots k h1 h15 (by omega); omega⟩

/-- A quiet stretch and the edge after it are a run of edges. -/
theorem edge_skip_eq_quietRun {s : State} {n : Nat} (h : n = 0 ∨ QuietFor s n) :
    (s.skip n).edge false = quietRun (n + 1) s := by
  induction n generalizing s with
  | zero => exact edge_skip_zero s
  | succ n ih =>
    have hq := h.resolve_left (Nat.succ_ne_zero n)
    rw [skip_succ n hq.first.1 hq.first.2, ih (.inr hq.rest)]
    rfl

/-! ### The next slot boundary (R20) -/

theorem slotCount_mono (p : Nat) {j k : Nat} (h : j ≤ k) : slotCount p j ≤ slotCount p k :=
  Nat.div_le_div_right (Nat.mul_le_mul_right p h)

/-- The slots of a frame begin at its period at the latest. -/
theorem slotCount_le (p : Nat) {k : Nat} (h : k ≤ 15) : slotCount p k ≤ p :=
  Nat.div_le_of_le_mul (Nat.mul_le_mul_right p (by omega))

theorem mem_slotsAhead {f : Ftu} {k : Nat} :
    k ∈ slotsAhead f ↔ (1 ≤ k ∧ k ≤ 15) ∧ f.count < slotCount f.inForce.p k := by
  simp only [slotsAhead, List.mem_filter, List.mem_range'_1, decide_eq_true_eq, slotCount]
  omega

theorem slotsAhead_pairwise (f : Ftu) : (slotsAhead f).Pairwise (· < ·) := (List.pairwise_lt_range').filter _

/-- The next count is that of the first slot ahead. -/
theorem nextCount_of_cons {f : Ftu} {k : Nat} {rest : List Nat} (h : slotsAhead f = k :: rest) :
    f.nextCount = slotCount f.inForce.p k := by
  unfold Ftu.nextCount
  rw [slotsDue_none, h]

/-- With no slot ahead the next count is the frame's end. -/
theorem nextCount_of_nil {f : Ftu} (h : slotsAhead f = []) : f.nextCount = f.frameEnd := by
  unfold Ftu.nextCount Ftu.frameEnd
  rw [slotsDue_none, h]
  cases f.state <;> rfl

/-- The next count is the frame's end at the latest. -/
theorem nextCount_le_frameEnd (f : Ftu) : f.nextCount ≤ f.frameEnd := by
  rcases hs : slotsAhead f with _ | ⟨k, rest⟩
  · exact (nextCount_of_nil hs).le
  · have hk : k ∈ slotsAhead f := hs ▸ List.mem_cons_self
    rw [nextCount_of_cons hs]
    exact (slotCount_le _ (mem_slotsAhead.1 hk).1.2).trans (period_le_frameEnd f)

/-- No slot ahead begins before the next count. -/
theorem nextCount_le_slotCount {f : Ftu} {k : Nat} (h : k ∈ slotsAhead f) : f.nextCount ≤ slotCount f.inForce.p k := by
  rcases hs : slotsAhead f with _ | ⟨j, rest⟩
  · rw [hs] at h; cases h
  · rw [nextCount_of_cons hs]
    refine slotCount_mono _ ?_
    have hord := slotsAhead_pairwise f
    rw [hs] at h hord
    rcases List.mem_cons.1 h with rfl | hmem
    · exact le_rfl
    · exact (List.rel_of_pairwise_cons hord hmem).le

/-- The edges before the next slot boundary are quiet. -/
theorem quietFor_nextCount {s : State} {n : Nat} (hf : s.ftu.fresh = false) (h : s.ftu.count + n < s.ftu.nextCount) :
    QuietFor s n :=
  ⟨hf, h.trans_le (nextCount_le_frameEnd s.ftu), fun _ h1 h15 hk =>
    h.trans_le (nextCount_le_slotCount (mem_slotsAhead.2 ⟨⟨h1, h15⟩, hk⟩))⟩

theorem quietEdges_pos (f : Ftu) : 1 ≤ f.quietEdges := by
  unfold Ftu.quietEdges
  split <;> omega

/-- SLOT_BOUNDARY's stretch is the run of its quiet edges. -/
theorem toNextSlot_eq_quietRun (s : State) : s.toNextSlot = quietRun s.ftu.quietEdges s := by
  have hpos := quietEdges_pos s.ftu
  obtain ⟨n, hn⟩ : ∃ n, s.ftu.quietEdges = n + 1 := ⟨s.ftu.quietEdges - 1, by omega⟩
  rw [State.toNextSlot, hn, Nat.add_sub_cancel]
  refine edge_skip_eq_quietRun ?_
  by_cases h0 : n = 0
  · exact .inl h0
  · refine .inr ?_
    unfold Ftu.quietEdges at hn
    split at hn
    · omega
    · next hf => exact quietFor_nextCount (by simpa using hf) (by omega)

/-- Several slot boundaries in a row are a run of edges. -/
theorem iterate_toNextSlot_eq_quietRun (k : Nat) (s : State) : ∃ n, k ≤ n ∧ State.toNextSlot^[k] s = quietRun n s := by
  induction k generalizing s with
  | zero => exact ⟨0, le_rfl, rfl⟩
  | succ k ih =>
    obtain ⟨n, hn, h⟩ := ih s.toNextSlot
    have := quietEdges_pos s.ftu
    exact ⟨s.ftu.quietEdges + n, by omega, by rw [Function.iterate_succ_apply, h, quietRun_add, ← toNextSlot_eq_quietRun]⟩

theorem slotsLeft_pos (f : Ftu) : 1 ≤ f.slotsLeft := by
  unfold Ftu.slotsLeft
  split <;> omega

/-- FRAME_START's stretch is a run of at least one edge. -/
theorem toNextFrame_eq_quietRun (s : State) : ∃ n, 1 ≤ n ∧ s.toNextFrame = quietRun n s := by
  obtain ⟨n, hn, h⟩ := iterate_toNextSlot_eq_quietRun s.ftu.slotsLeft s
  exact ⟨n, (slotsLeft_pos s.ftu).trans hn, h⟩

/-- MOVE_EXPIRY's stretch is a run of edges. -/
theorem toMoveEnd_eq_quietRun (i : RecIdx) (k : Nat) (s : State) : ∃ n, State.toMoveEnd i k s = quietRun n s := by
  induction k generalizing s with
  | zero => exact ⟨0, rfl⟩
  | succ k ih =>
    unfold State.toMoveEnd
    split
    · obtain ⟨m, -, hm⟩ := toNextFrame_eq_quietRun s
      obtain ⟨n, hn⟩ := ih s.toNextFrame
      exact ⟨m + n, by rw [hn, hm, quietRun_add]⟩
    · exact ⟨0, rfl⟩

/-- A property that every edge keeps, a quiet run keeps. -/
theorem quietRun_keeps {P : State → Prop} (h : ∀ s level, P s → P (s.edge level)) (n : Nat) {s : State} (hs : P s) :
    P (quietRun n s) := by
  induction n generalizing s with
  | zero => exact hs
  | succ n ih => exact ih (h s false hs)

end Sys2Proof.Machine
end

section
/-! What a request and a step can do, each said once: the effect of every request that is answered and not refused, and the
step as the command at the front of the queue. Then what requests leave alone. -/

namespace Sys2Proof.Machine

open Sys2Proof.Safety

/-! ### What a request that is not refused does -/

/-- The state a request of a kind leaves on a link when its owner does not refuse it, before its answer is put into the
buffer. Each constructor carries what the request's checks established. -/
inductive Taken (l : Link) (s : State) : ReqKind → State → Prop
  | same (kind : ReqKind) : Taken l s kind s
  | ownPort (kind : ReqKind) (p : Port) (h : p.causes.handover = (s.port l).causes.handover) :
      Taken l s kind (s.setPort l p)
  | setPolicy (items : List (Byte × Byte × Byte)) (h : firstRefused s 0 items = none) :
      Taken l s .setPolicy (applyItems s items).state
  | setBarMask (k : SectorId) (m : TileMask) :
      Taken l s .setBarMask (s.setPolicy { s.policy with masks := s.policy.masks.set k m })
  | restart : Taken l s .restartScheduling s.restart
  | setTiming (p t k : Nat) :
      Taken l s .setTiming { s with ftu := { s.ftu with pendingSet := some (clampTiming p t k) } }
  | admitted (i : RecIdx) (id : Nat) (w rd ru cap : Byte) (hi : s.occupant i = none) (h0 : id ≠ 0) (hid : id ≤ 16777215)
      (hun : s.findById id = none) :
      Taken l s .admitSubscriber (s.setRecord i
        { generation := nextGeneration (s.record i).generation
          occupant := some (freshOccupant id (clampTerms w rd ru cap)) })
  | setTerms (i : RecIdx) (o : Occupant) (w rd ru cap : Byte) (ho : s.occupant i = some o) :
      Taken l s .setTerms (s.setOccupant i (some (o.setTerms (clampTerms w rd ru cap))))
  | suspend (i : RecIdx) (o : Occupant) (ho : s.occupant i = some o) :
      Taken l s .suspend ((s.setOccupant i (some { o with suspended := true })).voidRecord i)
  | resume (i : RecIdx) (o : Occupant) (ho : s.occupant i = some o) :
      Taken l s .resume (s.setOccupant i (some { o with suspended := false }))
  | remove (i : RecIdx) (o : Occupant) (ho : s.occupant i = some o) : Taken l s .remove (s.removed i)
  | bind (k : SectorId) (hk : (s.sector k).state = .unbound) (hl : s.boundSector l = none) :
      Taken l s .bindSector (s.bindTo k l)
  | release (k : SectorId) (hk : s.boundSector l = some k) : Taken l s .releaseSector (s.releaseBinding k)
  | pin (k : SectorId) (pin : Option Link) :
      Taken l s .pinSector (s.setPolicy { s.policy with pins := s.policy.pins.set k pin })
  | pinEnds (k : SectorId) (pin : Option Link) (j : Link) (hj : (s.sector k).state.link? = some j) :
      Taken l s .pinSector ((s.setPolicy { s.policy with pins := s.policy.pins.set k pin }).releaseBinding k)
  | attach (k : SectorId) (h : Nat) (i : RecIdx) (o : Occupant) (hk : s.boundSector l = some k)
      (hh : 1 ≤ h ∧ h ≤ 127) (ho : s.occupant i = some o) (ha : o.attachment = .unbound)
      (hfree : s.handleEntry k h = none) : Taken l s .attach (attachTaken s k h i o).state
  | detach (k : SectorId) (h : Nat) (i : RecIdx) (o : Occupant) (hk : s.boundSector l = some k)
      (hl : s.lookup k h = some (i, o)) : Taken l s .detach (detachTaken s k h i o).state
  | demandBatch (k : SectorId) (entries : List ReportEntry) (u : State)
      (hfit : ∀ r ∈ entries, r.demandDL ≤ 65535 ∧ r.demandUL ≤ 65535) (hu : Reported (s.flagged k) k entries u) :
      Taken l s .demandBatch u
  | move (k t : SectorId) (h : Nat) (i : RecIdx) (o : Occupant) (hk : s.boundSector l = some k)
      (hl : s.lookup k h = some (i, o)) (hm : o.attachment.move? = none)
      (ht : (s.sector t).state.isPresent = true) (hq : (s.queue t).length < 8) :
      Taken l s .move (moveTaken s k t h i o).state
  | readNotice (k : SectorId) (n : Notice) (rest : List Notice) (hk : s.boundSector l = some k)
      (hq : s.queue k = n :: rest) : Taken l s .readNotice (s.setQueue k rest)
  | claim (k t : SectorId) (h h' n : Nat) (i : RecIdx) (o : Occupant) (ht : s.boundSector l = some t)
      (hh : 1 ≤ h' ∧ h' ≤ 127) (ho : s.occupant i = some o) (ha : o.attachment = .moving k h t n)
      (hfree : s.handleEntry t h' = none) : Taken l s .claim (claimTaken s k t h h' i o).state
  | cancelMove (i : RecIdx) (o : Occupant) (k t : SectorId) (h n : Nat) (ho : s.occupant i = some o)
      (ha : o.attachment = .moving k h t n) : Taken l s .cancelMove (s.cancelMoveOf i)
  | rights (j : Link) (r : Rights) (hp : r.policy = true ∨ ∃ q, q ≠ j ∧ (s.rights q).policy = true) :
      Taken l s .setLinkRights { s with policy := { s.policy with rights := s.policy.rights.set j r } }
  | rightsRelease (j : Link) (r : Rights) (k : SectorId)
      (hp : r.policy = true ∨ ∃ q, q ≠ j ∧ (s.rights q).policy = true) (hk : s.boundSector j = some k) :
      Taken l s .setLinkRights (State.releaseBinding
        { s with policy := { s.policy with rights := s.policy.rights.set j r } } k)

/-- An owner's answer refuses and changes nothing, or has a status below the refusals and an effect of its kind. -/
def Answered (l : Link) (s : State) (kind : ReqKind) (a : Answer) : Prop :=
  a.state = s ∨ (statusNo a.status < 16 ∧ Taken l s kind a.state)

section Answers

variable {l : Link} {s : State} {kind : ReqKind}

/-- A refusal changes nothing. -/
theorem answered_refuse (st : Status) (body : List Byte) : Answered l s kind (refuse s st body) := .inl rfl

/-- An OK answer has the effect of its kind. -/
theorem answered_ok {a : Answer} (ha : a.status = .ok) (h : Taken l s kind a.state) : Answered l s kind a :=
  .inr ⟨by rw [ha]; decide, h⟩

theorem statusNo_clampStatus (b : Bool) : statusNo (clampStatus b) < 16 := by
  cases b <;> decide

/-! ### The answers of the owners, kind by kind -/

theorem answered_setPolicy (body : List Byte) : Answered l s .setPolicy (setPolicyAnswer body s) := by
  unfold setPolicyAnswer
  split
  · exact answered_refuse _ _
  · next items _ =>
    split
    · exact answered_refuse _ _
    · next h =>
      refine .inr ⟨?_, .setPolicy items h⟩
      dsimp only
      split <;> decide

theorem answered_readPolicy (body : List Byte) : Answered l s .readPolicy (readPolicyAnswer body s) := by
  unfold readPolicyAnswer
  split
  · split <;> exact .inl rfl
  · exact answered_refuse _ _

theorem answered_setBarMask (body : List Byte) : Answered l s .setBarMask (setBarMaskAnswer body s) := by
  unfold setBarMaskAnswer
  split
  · split
    · split
      · exact answered_ok rfl (.setBarMask _ _)
      · exact answered_refuse _ _
    · exact answered_refuse _ _
  · exact answered_refuse _ _

theorem answered_restart (body : List Byte) : Answered l s .restartScheduling (restartSchedulingAnswer body s) := by
  unfold restartSchedulingAnswer
  split
  · exact answered_ok rfl (.restart)
  · exact answered_refuse _ _

theorem answered_setTiming (body : List Byte) : Answered l s .setTiming (setTimingAnswer body s) := by
  unfold setTimingAnswer
  split
  · refine .inr ⟨?_, .setTiming _ _ _⟩
    dsimp only
    split <;> decide
  · exact answered_refuse _ _

theorem answered_readTiming (body : List Byte) : Answered l s .readTiming (readTimingAnswer l body s) := by
  unfold readTimingAnswer
  split
  · exact answered_ok rfl (.ownPort _ _ rfl)
  · exact answered_refuse _ _

theorem field24_le (b0 b1 b2 : Byte) : field24 b0 b1 b2 ≤ 16777215 := by
  unfold field24
  omega

theorem occupant_of_lowestFree {i : RecIdx} (h : s.lowestFree = some i) : s.occupant i = none := by
  have := List.find?_some h
  simpa using this

theorem answered_admit (body : List Byte) : Answered l s .admitSubscriber (admitAnswer body s) := by
  unfold admitAnswer
  split
  · dsimp only
    split
    · exact answered_refuse _ _
    · next h0 =>
      split
      · exact answered_refuse _ _
      · next hun =>
        split
        · exact answered_refuse _ _
        · next i hi =>
          exact .inr ⟨statusNo_clampStatus _, .admitted i _ _ _ _ _ (occupant_of_lowestFree hi) h0 (field24_le _ _ _) hun⟩
  · exact answered_refuse _ _

theorem answered_setTerms (body : List Byte) : Answered l s .setTerms (setTermsAnswer body s) := by
  unfold setTermsAnswer
  split
  · split
    · exact answered_refuse _ _
    · next i o h =>
      exact .inr ⟨statusNo_clampStatus _, .setTerms i o _ _ _ _ (occupant_of_findById h).1⟩
  · exact answered_refuse _ _

/-- A request that names a record in use is refused or acts on it. -/
theorem answered_withSubscriber (body : List Byte) {act : RecIdx → Occupant → Answer}
    (h : ∀ i o, s.occupant i = some o → Answered l s kind (act i o)) : Answered l s kind (withSubscriber s body act) := by
  unfold withSubscriber
  split
  · split
    · exact answered_refuse _ _
    · next i o hf => exact h i o (occupant_of_findById hf).1
  · exact answered_refuse _ _

theorem answered_suspend (body : List Byte) : Answered l s .suspend (suspendAnswer body s) :=
  answered_withSubscriber body fun i o ho => answered_ok rfl (.suspend i o ho)

theorem answered_resume (body : List Byte) : Answered l s .resume (resumeAnswer body s) :=
  answered_withSubscriber body fun i o ho => answered_ok rfl (.resume i o ho)

theorem answered_remove (body : List Byte) : Answered l s .remove (removeAnswer body s) :=
  answered_withSubscriber body fun i o ho => answered_ok rfl (.remove i o ho)

theorem answered_readSubscriber (body : List Byte) : Answered l s .readSubscriber (readSubscriberAnswer body s) :=
  answered_withSubscriber body fun _ _ _ => .inl rfl

theorem answered_bindSector (body : List Byte) : Answered l s .bindSector (bindSectorAnswer l body s) := by
  unfold bindSectorAnswer
  split
  · split
    · exact answered_refuse _ _
    · next k _ =>
      unfold bindCases
      split
      · exact .inl rfl
      · split
        · exact .inl rfl
        · next hd =>
          split
          · exact .inl rfl
          · split
            · exact .inl rfl
            · next hlink =>
              split
              · exact .inl rfl
              · next hl =>
                have hk : (s.sector k).state = .unbound := by
                  cases hst : (s.sector k).state <;> simp_all [SectorState.link?]
                exact answered_ok rfl (.bind k hk hl)
  · exact answered_refuse _ _

theorem answered_pinSector (body : List Byte) : Answered l s .pinSector (pinSectorAnswer body s) := by
  unfold pinSectorAnswer
  split
  · split
    · next k pin _ _ =>
      refine answered_ok rfl (?_)
      by_cases he : pinEnds s k pin = true
      · obtain ⟨_, j, _, hj, _⟩ := pinEnds_iff.1 he
        simp only [he, if_true]
        exact .pinEnds k pin j hj
      · simp only [he]
        exact .pin k pin
    · exact answered_refuse _ _
  · exact answered_refuse _ _

theorem handleOk_iff {h : Nat} : handleOk h = true ↔ 1 ≤ h ∧ h ≤ 127 := by
  exact decide_eq_true_iff

/-- What the bound sector of a link is, to an owner. -/
theorem answered_releaseSector {k : SectorId} (hk : s.boundSector l = some k) (body : List Byte) :
    Answered l s .releaseSector (releaseSectorAnswer body k s) := by
  unfold releaseSectorAnswer
  split
  · exact answered_ok rfl (.release k hk)
  · exact answered_refuse _ _

theorem attachment_of_place_none {a : Attachment} (h : a.place? = none) : a = .unbound := by
  cases a <;> simp_all [Attachment.place?]

theorem answered_attach {k : SectorId} (hk : s.boundSector l = some k) (body : List Byte) :
    Answered l s .attach (attachAnswer body k s) := by
  unfold attachAnswer
  split
  · split
    · next hh =>
      split
      · exact answered_refuse _ _
      · next i o hf =>
        split
        · exact answered_refuse _ _
        · next hp =>
          split
          · exact answered_refuse _ _
          · next hfree =>
            exact answered_ok rfl (.attach k _ i o hk (handleOk_iff.1 hh) (occupant_of_findById hf).1
              (attachment_of_place_none hp) hfree)
    · exact answered_refuse _ _
  · exact answered_refuse _ _

theorem answered_detach {k : SectorId} (hk : s.boundSector l = some k) (body : List Byte) :
    Answered l s .detach (detachAnswer body k s) := by
  unfold detachAnswer
  split
  · split
    · split
      · exact answered_refuse _ _
      · next i o hl => exact answered_ok rfl (.detach k _ i o hk hl)
    · exact answered_refuse _ _
  · exact answered_refuse _ _

theorem field16_le (b0 b1 : Byte) : field16 b0 b1 ≤ 65535 := by
  unfold field16
  omega

/-- The demands of a report entry take two bytes each. -/
theorem demand_le_of_reportEntries {body : List Byte} {entries : List ReportEntry} (h : reportEntries body = some entries) :
    ∀ r ∈ entries, r.demandDL ≤ 65535 ∧ r.demandUL ≤ 65535 := by
  induction body using reportEntries.induct generalizing entries with
  | case1 =>
    cases h
    simp
  | case2 hb d0 d1 u0 u1 c t0 t1 rest ih =>
    rw [reportEntries, Option.map_eq_some_iff] at h
    obtain ⟨more, hmore, rfl⟩ := h
    intro r hr
    rcases List.mem_cons.1 hr with rfl | hr
    · exact ⟨field16_le _ _, field16_le _ _⟩
    · exact ih hmore r hr
  | case3 body hnil hcons =>
    unfold reportEntries at h
    split at h
    · exact absurd rfl hnil
    · exact absurd rfl (hcons _ _ _ _ _ _ _ _ _)
    · cases h

theorem answered_demandBatch (k : SectorId) (body : List Byte) :
    Answered l s .demandBatch (demandBatchAnswer body k s) := by
  unfold demandBatchAnswer
  split
  · exact answered_refuse _ _
  · split
    · exact answered_refuse _ _
    · next entries hentries =>
      split
      · exact answered_refuse _ _
      · split
        · obtain ⟨u, hu, hfold⟩ := foldl_reportOne (s.flagged k) k entries
          have hfold' := hfold
          unfold State.flagged at hfold'
          dsimp only
          rw [hfold']
          refine .inr ⟨?_, .demandBatch k entries u (demand_le_of_reportEntries hentries) hu⟩
          unfold BatchCount.status
          dsimp only
          split <;> decide
        · exact answered_refuse _ _

/-- A plan read answered OK clears PLAN READY at most. -/
theorem taken_clearPlanReady (kind : ReqKind) (frame : Nat) : Taken l s kind (s.clearPlanReady l frame) := by
  unfold State.clearPlanReady
  split
  · exact .ownPort _ _ rfl
  · exact .same _

theorem answered_readGrants (k : SectorId) (body : List Byte) :
    Answered l s .readGrants (readGrantsAnswer l body k s) := by
  unfold readGrantsAnswer
  split
  · split
    · exact answered_ok rfl (taken_clearPlanReady _ _)
    · exact answered_refuse _ _
    · exact answered_refuse _ _
  · exact answered_refuse _ _

theorem answered_readPlanSummary (body : List Byte) :
    Answered l s .readPlanSummary (readPlanSummaryAnswer l body s) := by
  unfold readPlanSummaryAnswer
  split
  · split
    · exact answered_ok rfl (taken_clearPlanReady _ _)
    · exact answered_refuse _ _
    · exact answered_refuse _ _
  · exact answered_refuse _ _

theorem answered_move {k : SectorId} (hk : s.boundSector l = some k) (body : List Byte) :
    Answered l s .move (moveAnswer body k s) := by
  unfold moveAnswer
  split
  · split
    · exact answered_refuse _ _
    · next t _ =>
      split
      · split
        · exact answered_refuse _ _
        · next i o hl =>
          unfold moveChecked
          split
          · exact answered_refuse _ _
          · next hm =>
            split
            · exact answered_refuse _ _
            · split
              · exact answered_refuse _ _
              · split
                · next hp =>
                  split
                  · exact answered_refuse _ _
                  · next hq =>
                    exact answered_ok rfl (.move k t _ i o hk hl hm hp (Nat.lt_of_not_le hq))
                · exact answered_refuse _ _
      · exact answered_refuse _ _
  · exact answered_refuse _ _

theorem answered_readNotice {k : SectorId} (hk : s.boundSector l = some k) (body : List Byte) :
    Answered l s .readNotice (readNoticeAnswer body k s) := by
  unfold readNoticeAnswer
  split
  · split
    · exact answered_refuse _ _
    · next n rest hq => exact answered_ok rfl (.readNotice k n rest hk hq)
  · exact answered_refuse _ _

theorem answered_claim {t : SectorId} (ht : s.boundSector l = some t) (body : List Byte) :
    Answered l s .claim (claimAnswer body t s) := by
  unfold claimAnswer
  split
  · split
    · next hh =>
      split
      · exact answered_refuse _ _
      · next i o hf =>
        unfold claimChecked
        split
        · exact answered_refuse _ _
        · split <;> exact answered_refuse _ _
        · next k h t' n ha =>
          split
          · next htt =>
            subst htt
            split
            · exact answered_refuse _ _
            · next hfree =>
              exact answered_ok rfl (.claim k t' h _ n i o ht (handleOk_iff.1 hh)
                (occupant_of_findById hf).1 ha hfree)
          · exact answered_refuse _ _
    · exact answered_refuse _ _
  · exact answered_refuse _ _

theorem answered_cancelMove (k : SectorId) (body : List Byte) :
    Answered l s .cancelMove (cancelMoveAnswer body k s) := by
  unfold cancelMoveAnswer
  split
  · split
    · split
      · exact answered_refuse _ _
      · next i o hl =>
        split
        · exact answered_refuse _ _
        · next hm =>
          cases ha : o.attachment with
          | unbound => rw [ha] at hm; cases hm
          | active _ _ => rw [ha] at hm; cases hm
          | moving home h t n => exact answered_ok rfl (.cancelMove i o home t h n (lookup_some hl).1 ha)
    · exact answered_refuse _ _
  · exact answered_refuse _ _

theorem otherPolicy_iff {j : Link} : otherPolicy s j = true ↔ ∃ q, q ≠ j ∧ (s.rights q).policy = true := by
  simp [otherPolicy]

theorem answered_setLinkRights (body : List Byte) : Answered l s .setLinkRights (setLinkRightsAnswer body s) := by
  unfold setLinkRightsAnswer
  split
  · split
    · exact answered_refuse _ _
    · next j _ =>
      dsimp only
      split
      · next hp =>
        rw [Bool.or_eq_true, otherPolicy_iff] at hp
        split
        · next k hk =>
          refine answered_ok rfl (.rightsRelease j _ k hp ?_)
          split at hk
          · exact hk
          · cases hk
        · exact answered_ok rfl (.rights j _ hp)
      · exact answered_refuse _ _
  · exact answered_refuse _ _

theorem answered_readAttention (body : List Byte) : Answered l s .readAttention (readAttentionAnswer l body s) := by
  unfold readAttentionAnswer
  split
  · exact answered_ok rfl (.ownPort _ _ rfl)
  · exact answered_refuse _ _

theorem answered_setAttentionMask (body : List Byte) :
    Answered l s .setAttentionMask (setAttentionMaskAnswer l body s) := by
  unfold setAttentionMaskAnswer
  split
  · exact answered_ok rfl (.ownPort _ _ rfl)
  · exact answered_refuse _ _

theorem answered_readLinkStatus (body : List Byte) : Answered l s .readLinkStatus (readLinkStatusAnswer l body s) := by
  unfold readLinkStatusAnswer
  split
  · exact answered_ok rfl (.ownPort _ _ rfl)
  · exact answered_refuse _ _

theorem answered_readSectors (body : List Byte) : Answered l s .readSectors (readSectorsAnswer body s) := by
  unfold readSectorsAnswer
  split <;> exact .inl rfl

end Answers

/-! ### What taking a request does -/

/-- Taking a request refuses it with nothing changed, or has the effect of its kind and an answer below the refusals; and
FETCH empties the buffer of its link. -/
inductive Served (l : Link) (s : State) : ReqKind → State → Prop
  | refused (kind : ReqKind) (r : Response) : Served l s kind (s.putResponse l r)
  | taken {kind : ReqKind} {u : State} (r : Response) (hr : statusNo r.status < 16) (h : Taken l s kind u) :
      Served l s kind (u.putResponse l r)
  | fetched : Served l s .fetch (s.setPort l { s.port l with buffer := none })

theorem served_serve {l : Link} {s : State} {kind : ReqKind} (tag : Byte) {owner : State → Answer}
    (h : Answered l s kind (owner s)) : Served l s kind (s.serve kind l tag owner) := by
  rcases serve_cases s kind l tag owner with ⟨_, he⟩ | ⟨_, he⟩ <;> rw [he]
  · exact .refused _ _
  · rcases h with h | ⟨hr, h⟩
    · rw [h]; exact .refused _ _
    · exact .taken _ hr h

theorem served_serveBound {l : Link} {s : State} {kind : ReqKind} (tag : Byte) {owner : SectorId → State → Answer}
    (h : ∀ k, s.boundSector l = some k → Answered l s kind (owner k s)) :
    Served l s kind (s.serveBound kind l tag owner) := by
  refine served_serve tag ?_
  split
  · next k hk => exact h k hk
  · exact answered_refuse _ _

/-- Everything taking a request can do. -/
theorem takeRequest_served (kind : ReqKind) (l : Link) (tag : Byte) (body : List Byte) (s : State) :
    Served l s kind (takeRequest kind l tag body s) := by
  cases kind with
  | fetch => exact .fetched
  | readPolicy => exact served_serve tag (answered_readPolicy body)
  | setPolicy => exact served_serve tag (answered_setPolicy body)
  | setBarMask => exact served_serve tag (answered_setBarMask body)
  | restartScheduling => exact served_serve tag (answered_restart body)
  | setTiming => exact served_serve tag (answered_setTiming body)
  | readTiming => exact served_serve tag (answered_readTiming body)
  | admitSubscriber => exact served_serve tag (answered_admit body)
  | setTerms => exact served_serve tag (answered_setTerms body)
  | suspend => exact served_serve tag (answered_suspend body)
  | resume => exact served_serve tag (answered_resume body)
  | remove => exact served_serve tag (answered_remove body)
  | readSubscriber => exact served_serve tag (answered_readSubscriber body)
  | bindSector => exact served_serve tag (answered_bindSector body)
  | releaseSector => exact served_serveBound tag fun _ hk => answered_releaseSector hk body
  | pinSector => exact served_serve tag (answered_pinSector body)
  | attach => exact served_serveBound tag fun _ hk => answered_attach hk body
  | detach => exact served_serveBound tag fun _ hk => answered_detach hk body
  | readSectors => exact served_serve tag (answered_readSectors body)
  | demandBatch => exact served_serveBound tag fun k _ => answered_demandBatch k body
  | readGrants => exact served_serveBound tag fun k _ => answered_readGrants k body
  | readPlanSummary => exact served_serve tag (answered_readPlanSummary body)
  | move => exact served_serveBound tag fun _ hk => answered_move hk body
  | readNotice => exact served_serveBound tag fun _ hk => answered_readNotice hk body
  | claim => exact served_serveBound tag fun _ hk => answered_claim hk body
  | cancelMove => exact served_serveBound tag fun k _ => answered_cancelMove k body
  | setLinkRights => exact served_serve tag (answered_setLinkRights body)
  | readAttention => exact served_serve tag (answered_readAttention body)
  | setAttentionMask => exact served_serve tag (answered_setAttentionMask body)
  | readLinkStatus => exact served_serve tag (answered_readLinkStatus body)

/-- Everything a request row can do. -/
theorem served_of_exec {c : Instr} {kind : ReqKind} {l : Link} {tag : Byte} {body : List Byte} {s t : State}
    (hc : c.request? = some (kind, l, tag, body)) (ht : exec c s = .next t) : Served l s kind t := by
  rw [exec_eq_takeRequest hc, Host.Outcome.next.injEq] at ht
  exact ht ▸ takeRequest_served kind l tag body s

/-- Settles O31: an answer with a refusal's status comes from a refusal, which changes nothing. -/
theorem refusalChangesNothing : Obligations.RefusalChangesNothing := by
  intro c kind l tag body s t r hc ht hr hst
  cases served_of_exec hc ht with
  | refused _ r' =>
    rw [port_putResponse_same] at hr
    cases hr
    rfl
  | taken r' hr' h =>
    rw [port_putResponse_same] at hr
    cases hr
    omega
  | fetched =>
    rw [port_setPort_same] at hr
    cases hr

/-! ### What requests leave alone (R89, R157) -/

/-- `u`'s ports are those of `s` but for their pending causes. -/
def OnlyCauses (s u : State) : Prop := ∀ j, u.port j = { s.port j with causes := (u.port j).causes }

theorem OnlyCauses.of_ports {s u : State} (h : u.ports = s.ports) : OnlyCauses s u := fun j => by
  rw [port_congr h]

theorem OnlyCauses.trans {s u v : State} (h : OnlyCauses s u) (h' : OnlyCauses u v) : OnlyCauses s v := fun j => by
  rw [h' j, h j]

theorem OnlyCauses.of_onlyHandover {s u : State} (h : OnlyHandover s u) : OnlyCauses s u := fun j => by
  rw [h.1 j]

theorem onlyCauses_raiseSectorState (s : State) : OnlyCauses s s.raiseSectorState := fun j => by
  rw [port_raiseSectorState]
  rfl

theorem onlyCauses_setQueue (s : State) (k : SectorId) (q : List Notice) : OnlyCauses s (s.setQueue k q) := fun j => by
  rw [setQueue_port]
  split <;> rfl

theorem onlyCauses_releaseBinding (s : State) (k : SectorId) : OnlyCauses s (s.releaseBinding k) := by
  obtain ⟨-, -, -, -, -, -, -, hport, -⟩ := released_releaseBinding s k
  exact fun j => by rw [hport j]

/-- N acts on the policy and the sectors, and on causes alone (R13, R55). -/
theorem setN_frame (s : State) (n : Nat) :
    s.setN n = { s with policy := { s.policy with n := n }, sectors := (s.setN n).sectors, ports := (s.setN n).ports } ∧
      OnlyCauses s (s.setN n) := by
  unfold State.setN
  dsimp only
  split
  · exact ⟨rfl, (OnlyCauses.of_ports (by rfl)).trans (onlyCauses_raiseSectorState _)⟩
  · exact ⟨rfl, OnlyCauses.of_ports rfl⟩

/-- The effect of an item reaches the policy, the sectors and causes alone (R12). -/
theorem applyItem_frame (s : State) (item : PolicyItem) :
    (applyItem s item).state = { s with
      policy := (applyItem s item).state.policy, sectors := (applyItem s item).state.sectors
      ports := (applyItem s item).state.ports } ∧ OnlyCauses s (applyItem s item).state := by
  cases item with
  | n v =>
    obtain ⟨hframe, hports⟩ := setN_frame s (clampTo 1 3 v)
    refine ⟨?_, hports⟩
    simp only [applyItem, appliedValue]
    rw [hframe]
  | _ => exact ⟨rfl, OnlyCauses.of_ports rfl⟩

/-- The effect of a list of items reaches the policy, the sectors and causes alone (R12). -/
theorem applyItems_frame (s : State) (items : List (Byte × Byte × Byte)) :
    (applyItems s items).state = { s with
      policy := (applyItems s items).state.policy, sectors := (applyItems s items).state.sectors
      ports := (applyItems s items).state.ports } ∧ OnlyCauses s (applyItems s items).state := by
  induction items generalizing s with
  | nil => exact ⟨rfl, OnlyCauses.of_ports rfl⟩
  | cons it rest ih =>
    obtain ⟨i, lo, hi⟩ := it
    unfold applyItems
    split
    · exact ih s
    · next item _ =>
      obtain ⟨h1, h1'⟩ := applyItem_frame s item
      obtain ⟨h2, h2'⟩ := ih (applyItem s item).state
      refine ⟨?_, h1'.trans h2'⟩
      dsimp only
      rw [h2, h1]

/-- What a request that is answered leaves alone: the window, the lines, the waiting commands, the timing but for the
pending set, LIVE's frame; the build in flight unless it restarts; the policy unless it sets it; the other ports but for
their causes. -/
structure LeavesAlone (l : Link) (s : State) (kind : ReqKind) (u : State) : Prop where
  windowOpen : u.windowOpen = s.windowOpen
  powerLow : u.powerLow = s.powerLow
  pending : u.pending = s.pending
  ftu : u.ftu = { s.ftu with pendingSet := u.ftu.pendingSet }
  ftu_of_ne : kind ≠ .setTiming → u.ftu = s.ftu
  builder : kind ≠ .restartScheduling → u.builder = s.builder
  live : u.live.frame = s.live.frame
  next : (∀ n ∈ u.next, ∃ m ∈ s.next, n.frame = m.frame)
  policy : kind ∉ [ReqKind.setPolicy, .setBarMask, .pinSector, .setLinkRights] → u.policy = s.policy
  port : ∀ j, j ≠ l → u.port j = { s.port j with causes := (u.port j).causes }

/-- An effect that reaches the table, the sectors, the queues and causes, and may void grants. -/
theorem LeavesAlone.of_fields {l : Link} {s u : State} (kind : ReqKind) {p : Policy} {t : Vector Record 192}
    {v : PerSector Sector} {q : PerSector (List Notice)} {pl : PerLink Port} {live : Live} {next : Option NextPlan}
    (h : u = { s with policy := p, table := t, sectors := v, queues := q, ports := pl, live := live, next := next })
    (hl : live.frame = s.live.frame) (hn : ∀ n ∈ next, ∃ m ∈ s.next, n.frame = m.frame)
    (hp : kind ∉ [ReqKind.setPolicy, .setBarMask, .pinSector, .setLinkRights] → p = s.policy)
    (hc : ∀ j, j ≠ l → u.port j = { s.port j with causes := (u.port j).causes }) : LeavesAlone l s kind u where
  windowOpen := by rw [h]
  powerLow := by rw [h]
  pending := by rw [h]
  ftu := by rw [h]
  ftu_of_ne _ := by rw [h]
  builder _ := by rw [h]
  live := by rw [h]; exact hl
  next := by rw [h]; exact hn
  policy hk := by rw [h]; exact hp hk
  port := hc

/-- Voiding leaves the frames of LIVE and NEXT alone. -/
theorem frame_of_nextVoided {f : SectorId → Grant → Bool} {s : State} :
    ∀ n ∈ nextVoided f s.next, ∃ m ∈ s.next, n.frame = m.frame := by
  intro n hn
  obtain ⟨m, hm, rfl⟩ := Option.map_eq_some_iff.1 hn
  exact ⟨m, hm, rfl⟩

theorem frame_of_next (s : State) : ∀ n ∈ s.next, ∃ m ∈ s.next, n.frame = m.frame := fun n hn => ⟨n, hn, rfl⟩

theorem releaseBinding_frame (s : State) (k : SectorId) :
    s.releaseBinding k = { s with
      table := (s.releaseBinding k).table, sectors := (s.releaseBinding k).sectors
      queues := (s.releaseBinding k).queues, ports := (s.releaseBinding k).ports } := by
  obtain ⟨-, -, -, -, -, -, -, -, hframe⟩ := released_releaseBinding s k
  exact hframe

/-- What the effect of a request leaves alone. -/
theorem Taken.leavesAlone {l : Link} {s : State} {kind : ReqKind} {u : State} (h : Taken l s kind u) :
    LeavesAlone l s kind u := by
  have hn := frame_of_next s
  cases h with
  | same => exact .of_fields kind (by rfl) rfl hn (fun _ => rfl) fun _ _ => rfl
  | ownPort _ p hp =>
    exact .of_fields kind (by rfl) rfl hn (fun _ => rfl) fun j hj => by rw [port_setPort_other s p hj]
  | setPolicy items hi =>
    obtain ⟨hf, hc⟩ := applyItems_frame s items
    exact .of_fields _ hf rfl hn (fun hk => absurd (by decide) hk) fun j _ => hc j
  | setBarMask => exact .of_fields _ (by rfl) rfl hn (fun hk => absurd (by decide) hk) fun _ _ => rfl
  | restart =>
    have hf := restart_frame s
    exact
      { windowOpen := by rw [hf]
        powerLow := by rw [hf]
        pending := by rw [hf]
        ftu := by rw [hf]
        ftu_of_ne := fun _ => by rw [hf]
        builder := fun hk => absurd rfl hk
        live := by rw [restart_live]
        next := fun n hnn => by rw [hf] at hnn; cases hnn
        policy := fun _ => by rw [hf]
        port := fun j _ => by rw [port_restart] }
  | setTiming =>
    exact
      { windowOpen := rfl, powerLow := rfl, pending := rfl, ftu := rfl, ftu_of_ne := fun hk => absurd rfl hk
        builder := fun _ => rfl, live := rfl, next := hn, policy := fun _ => rfl, port := fun _ _ => rfl }
  | admitted i id w rd ru cap => exact .of_fields _ (by rfl) rfl hn (fun _ => rfl) fun _ _ => rfl
  | setTerms i o w rd ru cap => exact .of_fields _ (by rfl) rfl hn (fun _ => rfl) fun _ _ => rfl
  | suspend i o =>
    rw [voidRecord_eq]
    exact .of_fields (live := liveVoided _ s.live) (next := nextVoided _ s.next) _ (by rfl) rfl frame_of_nextVoided
      (fun _ => rfl) fun _ _ => rfl
  | resume i o => exact .of_fields _ (by rfl) rfl hn (fun _ => rfl) fun _ _ => rfl
  | remove i o ho =>
    exact .of_fields _ (removed_frame s i) rfl frame_of_nextVoided (fun _ => rfl) fun j _ =>
      OnlyCauses.of_onlyHandover (onlyHandover_removed s i) j
  | bind k =>
    exact .of_fields _ (by rfl) rfl hn (fun _ => rfl) fun j _ =>
      onlyCauses_raiseSectorState (s.setSector k { s.sector k with state := .silent l, missed := s.policy.m, batchSeen := false }) j
  | release k =>
    exact .of_fields _ (releaseBinding_frame s k) rfl hn (fun _ => rfl) fun j _ => onlyCauses_releaseBinding s k j
  | pin k pin => exact .of_fields _ (by rfl) rfl hn (fun hk => absurd (by decide) hk) fun _ _ => rfl
  | pinEnds k pin =>
    exact .of_fields _ (releaseBinding_frame _ k) rfl hn (fun hk => absurd (by decide) hk) fun j _ =>
      onlyCauses_releaseBinding (s.setPolicy { s.policy with pins := s.policy.pins.set k pin }) k j
  | attach k h i o => exact .of_fields _ (by rfl) rfl hn (fun _ => rfl) fun _ _ => rfl
  | detach k h i o =>
    exact .of_fields _ (detachTaken_frame s k h i o) rfl frame_of_nextVoided (fun _ => rfl) fun j _ =>
      OnlyCauses.of_onlyHandover (onlyHandover_detachTaken s k h i o) j
  | demandBatch k entries u hfit hu =>
    refine .of_fields (p := s.policy) (t := u.table) (v := (s.flagged k).sectors) (q := s.queues) (pl := s.ports) _ ?_ rfl
      hn (fun _ => rfl) fun j _ => ?_
    · exact hu.frame
    · rw [hu.frame]; rfl
  | move k t h i o =>
    exact .of_fields _ (moveTaken_frame s k t h i o) rfl hn (fun _ => rfl) fun j _ => by
      rw [moveTaken_state]
      exact onlyCauses_setQueue (s.setOccupant i _) t _ j
  | readNotice k n rest =>
    exact .of_fields _ (setQueue_frame s k rest) rfl hn (fun _ => rfl) fun j _ => onlyCauses_setQueue s k rest j
  | claim k t h h' n i o =>
    exact .of_fields _ (claimTaken_frame s k t h h' i o) rfl frame_of_nextVoided (fun _ => rfl) fun j _ =>
      OnlyCauses.of_onlyHandover (onlyHandover_claimTaken s k t h h' i o) j
  | cancelMove i o k t h n ho ha =>
    exact .of_fields _ (cancelMoveOf_frame ho ha) rfl hn (fun _ => rfl) fun j _ =>
      OnlyCauses.of_onlyHandover (onlyHandover_cancelMoveOf s i) j
  | rights j r => exact .of_fields _ (by rfl) rfl hn (fun hk => absurd (by decide) hk) fun _ _ => rfl
  | rightsRelease j r k =>
    exact .of_fields _ (releaseBinding_frame _ k) rfl hn (fun hk => absurd (by decide) hk) fun q _ =>
      onlyCauses_releaseBinding { s with policy := { s.policy with rights := s.policy.rights.set j r } } k q

/-- Putting a response into the link's own buffer leaves the rest alone. -/
theorem LeavesAlone.putResponse {l : Link} {s u : State} {kind : ReqKind} (h : LeavesAlone l s kind u) (r : Response) :
    LeavesAlone l s kind (u.putResponse l r) :=
  { h with port := fun j hj => by rw [port_putResponse_other u r hj]; exact h.port j hj }

/-- What a request leaves alone, refused or not. -/
theorem Served.leavesAlone {l : Link} {s : State} {kind : ReqKind} {u : State} (h : Served l s kind u) :
    LeavesAlone l s kind u := by
  cases h with
  | refused _ r => exact (Taken.same kind).leavesAlone.putResponse r
  | taken r _ h => exact h.leavesAlone.putResponse r
  | fetched => exact (Taken.ownPort .fetch { s.port l with buffer := none } rfl).leavesAlone

/-- Settles O32: each effect of a request leaves these blocks alone, and so do its answer and FETCH. -/
theorem requestsReachOnlyTheirState : Obligations.RequestsReachOnlyTheirState := by
  intro c kind l tag body s t hc ht
  have h := (served_of_exec hc ht).leavesAlone
  exact ⟨h.windowOpen, h.powerLow, h.ftu, h.ftu_of_ne, fun hk => ⟨h.builder hk, h.live⟩, h.policy, h.port⟩

/-! ### A step (log entries 2, 3, 6 and 9) -/

/-- Settles O1: a step reads the front of the queue. -/
theorem stepRunsFrontCommand : Obligations.StepRunsFrontCommand := by
  intro c rest s h
  unfold step
  rw [h]

/-- The waiting commands stay as they are through a hold timeout's stretch. -/
theorem execHoldTimeout_eq_quietRun (l : Link) (bits : List Bool) (s : State) :
    ∃ n, exec (.holdTimeout l bits) s = .next (quietRun n (s.clockLink l bits)) := by
  show ∃ n, execHoldTimeout l bits s = _
  unfold execHoldTimeout
  dsimp only
  split
  · obtain ⟨n, -, hn⟩ := iterate_toNextSlot_eq_quietRun (((s.clockLink l bits).port l).hold + 1 -
      ((s.clockLink l bits).port l).slots) (s.clockLink l bits)
    exact ⟨n, congrArg _ hn⟩
  · exact ⟨0, rfl⟩

/-- What a release leaves waiting. -/
theorem releaseSelect_pending (s : State) (l : Link) : (s.releaseSelect l).pending = s.pending := by
  unfold State.releaseSelect
  dsimp only
  split
  · split
    · rfl
    · rfl
    · exact (takeRequest_served _ _ _ _ _).leavesAlone.pending
  · rfl

theorem quietRun_pending (n : Nat) (s : State) : (quietRun n s).pending = s.pending :=
  quietRun_keeps (P := fun u => u.pending = s.pending) (fun u level h => (edge_pending u level).trans h) n rfl

/-- Settles O2: each row has a meaning that answers a next state, and none touches the waiting commands. -/
theorem everyCommandCompletes : Obligations.EveryCommandCompletes := by
  intro c s
  rcases hreq : c.request? with _ | ⟨kind, l, tag, body⟩
  · cases c with
    | powerOnReset => exact ⟨_, rfl, rfl⟩
    | selectAssert l bits => exact ⟨_, rfl, by simp⟩
    | selectRelease l bits => exact ⟨_, rfl, by rw [releaseSelect_pending, clockLink_pending]⟩
    | holdTimeout l bits =>
      obtain ⟨n, hn⟩ := execHoldTimeout_eq_quietRun l bits s
      exact ⟨_, hn, by rw [quietRun_pending, clockLink_pending]⟩
    | powerLowLineChange asserted => exact ⟨_, rfl, rfl⟩
    | referenceClockEdge level => exact ⟨_, rfl, edge_pending s level⟩
    | pulse => exact ⟨_, rfl, edge_pending s true⟩
    | missedExpiry =>
      cases hs : s.ftu.state with
      | locked => exact ⟨s.toNextFrame, by simp only [exec, execMissedExpiry, hs], toNextFrame_pending s⟩
      | free => exact ⟨s, by simp only [exec, execMissedExpiry, hs], rfl⟩
      | holdover => exact ⟨s, by simp only [exec, execMissedExpiry, hs], rfl⟩
    | frameStart => exact ⟨_, rfl, toNextFrame_pending s⟩
    | moveExpiry i => exact ⟨_, rfl, toMoveEnd_pending i _ s⟩
    | slotBoundary => exact ⟨_, rfl, toNextSlot_pending s⟩
    | buildCompletion => exact ⟨_, rfl, complete_pending s⟩
    | _ => cases hreq
  · exact ⟨_, exec_eq_takeRequest hreq s, (takeRequest_served kind l tag body s).leavesAlone.pending⟩

/-- In FREE and HOLDOVER there is no pulse to miss. -/
theorem execMissedExpiry_of_ne {s : State} (h : s.ftu.state ≠ .locked) : exec .missedExpiry s = .next s := by
  cases hs : s.ftu.state with
  | locked => exact absurd hs h
  | free => simp only [exec, execMissedExpiry, hs]
  | holdover => simp only [exec, execMissedExpiry, hs]

/-- A record that is not MOVING has no frames left and no move to wait for. -/
theorem framesLeft_of_settled {s : State} {i : RecIdx} (h : ∀ o ∈ s.occupant i, o.attachment.move? = none) :
    framesLeft s i = 0 := by
  unfold framesLeft
  rcases Option.eq_none_or_eq_some (s.occupant i) with ho | ⟨o, ho⟩
  · simp only [ho]
  · simp only [ho, h o ho]

/-- Bits on a released link are ignored. -/
theorem clockLink_of_released {s : State} {l : Link} (h : (s.port l).selected = false) (bits : List Bool) :
    s.clockLink l bits = s := by
  unfold State.clockLink
  rw [h]
  rfl

/-- Without a clock cycle a port does not change. -/
theorem shift_nil (p : Port) : p.shift [] = p := by
  obtain ⟨selected, hold, slots, timedOut⟩ := p
  cases timedOut
  · have hnot : ∀ n, ¬(n < 8 ∧ 8 ≤ n) := by omega
    simp [Port.shift, Port.drive, hnot]
  · simp [Port.shift]

/-- Settles O3: each event that cannot come finds its guard false. -/
theorem choicesForWhatCannotCome : Obligations.ChoicesForWhatCannotCome := by
  refine ⟨fun s h => ?idle, fun s h => execMissedExpiry_of_ne h, fun s i h => ?settled, fun s h => ?noBuild,
    fun s l bits h => ⟨?release, ?hold⟩, fun s l h => ?selected, fun s => ?reset⟩
  case idle =>
    unfold step
    rw [h]
  case settled =>
    show Host.Outcome.next (State.toMoveEnd i (framesLeft s i) s) = _
    rw [framesLeft_of_settled h]
    rfl
  case noBuild => exact congrArg Host.Outcome.next (complete_of_none h)
  case release =>
    show Host.Outcome.next ((s.clockLink l bits).releaseSelect l) = _
    rw [clockLink_of_released h]
    simp [State.releaseSelect, h]
  case hold =>
    show execHoldTimeout l bits s = _
    simp [execHoldTimeout, clockLink_of_released h, h]
  case selected =>
    show Host.Outcome.next ((s.assertSelect l).clockLink l []) = _
    have hassert : s.assertSelect l = s := by simp [State.assertSelect, h]
    rw [hassert, State.clockLink, if_pos h, shift_nil, setPort_self]
  case reset =>
    refine ⟨_, exec_powerOnReset s, rfl, rfl, fun l => ?_⟩
    rw [port_resetWith]
    cases (s.port l).selected <;> rfl

/-! ### Properties that every step keeps -/

/-- A property of the state that each part of a step keeps: queueing, the lines, a reset, the ports but for HANDOVER, a
clock edge, a build's completion, and the effect of a request that is not refused. -/
structure Kept (P : State → Prop) : Prop where
  pending : ∀ s q, P s → P { s with pending := q }
  powerLow : ∀ s b, P s → P { s with powerLow := b }
  reset : ∀ selected powerLow q, P (resetWith selected powerLow q)
  ports : ∀ s (ps : PerLink Port), (∀ l, (ps.get l).causes.handover = (s.port l).causes.handover) → P s →
    P { s with ports := ps }
  edge : ∀ s level, P s → P (s.edge level)
  complete : ∀ s, P s → P s.complete
  taken : ∀ {l s kind u}, Taken l s kind u → P s → P u

section Kept

variable {P : State → Prop} (h : Kept P)

include h

/-- One port may change in all but HANDOVER. -/
theorem Kept.setPort {s : State} (l : Link) {p : Port} (hp : p.causes.handover = (s.port l).causes.handover)
    (hs : P s) : P (s.setPort l p) := by
  refine h.ports s _ (fun j => ?_) hs
  by_cases hj : j = l
  · subst hj; rw [PerLink.get_set_same, hp]
  · rw [PerLink.get_set_other _ _ hj]; rfl

theorem Kept.served {l : Link} {s : State} {kind : ReqKind} {u : State} (hu : Served l s kind u) (hs : P s) : P u := by
  cases hu with
  | refused _ r => exact h.setPort l rfl hs
  | taken r _ hu => exact h.setPort l rfl (h.taken hu hs)
  | fetched => exact h.setPort l rfl hs

theorem Kept.takeRequest (kind : ReqKind) (l : Link) (tag : Byte) (body : List Byte) {s : State} (hs : P s) :
    P (takeRequest kind l tag body s) :=
  h.served (takeRequest_served kind l tag body s) hs

theorem Kept.clockLink (l : Link) (bits : List Bool) {s : State} (hs : P s) : P (s.clockLink l bits) := by
  unfold State.clockLink
  split
  · exact h.setPort l (by rw [shift_causes]) hs
  · exact hs

theorem Kept.assertSelect (l : Link) {s : State} (hs : P s) : P (s.assertSelect l) := by
  unfold State.assertSelect
  split
  · exact hs
  · exact h.setPort l rfl hs

theorem Kept.releaseSelect (l : Link) {s : State} (hs : P s) : P (s.releaseSelect l) := by
  unfold State.releaseSelect
  dsimp only
  split
  · split
    · exact h.setPort l rfl hs
    · exact h.setPort l rfl hs
    · exact h.takeRequest _ _ _ _ (h.setPort l rfl hs)
  · exact hs

theorem Kept.quietRun (n : Nat) {s : State} (hs : P s) : P (quietRun n s) := quietRun_keeps h.edge n hs

theorem Kept.toNextFrame {s : State} (hs : P s) : P s.toNextFrame := by
  obtain ⟨n, _, hn⟩ := toNextFrame_eq_quietRun s
  exact hn ▸ h.quietRun n hs

/-- Each command keeps what all its parts keep. -/
theorem Kept.exec {c : Instr} {s t : State} (hs : P s) (ht : exec c s = .next t) : P t := by
  rcases hreq : c.request? with _ | ⟨kind, l, tag, body⟩
  · cases c with
    | powerOnReset => cases ht; exact h.reset (fun l => (s.port l).selected) s.powerLow s.pending
    | selectAssert l bits => cases ht; exact h.clockLink l bits (h.assertSelect l hs)
    | selectRelease l bits => cases ht; exact h.releaseSelect l (h.clockLink l bits hs)
    | holdTimeout l bits =>
      obtain ⟨n, hn⟩ := execHoldTimeout_eq_quietRun l bits s
      rw [hn] at ht
      cases ht
      exact h.quietRun n (h.clockLink l bits hs)
    | powerLowLineChange asserted => cases ht; exact h.powerLow s asserted hs
    | referenceClockEdge level => cases ht; exact h.edge s level hs
    | pulse => cases ht; exact h.edge s true hs
    | missedExpiry =>
      by_cases hst : s.ftu.state = .locked
      · have he : Machine.exec .missedExpiry s = .next s.toNextFrame := by
          simp only [Machine.exec, execMissedExpiry, hst]
        rw [he] at ht
        cases ht
        exact h.toNextFrame hs
      · rw [execMissedExpiry_of_ne hst] at ht
        cases ht
        exact hs
    | frameStart => cases ht; exact h.toNextFrame hs
    | moveExpiry i =>
      obtain ⟨n, hn⟩ := toMoveEnd_eq_quietRun i (framesLeft s i) s
      cases ht
      rw [hn]
      exact h.quietRun n hs
    | slotBoundary =>
      cases ht
      rw [toNextSlot_eq_quietRun]
      exact h.quietRun _ hs
    | buildCompletion => cases ht; exact h.complete s hs
    | _ => cases hreq
  · exact h.served (served_of_exec hreq ht) hs

/-- A step keeps what all its parts keep. -/
theorem Kept.step {s t : State} (hs : P s) (ht : step s = .next t) : P t := by
  unfold Machine.step at ht
  split at ht
  · cases ht; exact hs
  · exact h.exec (h.pending s _ hs) ht

end Kept

end Sys2Proof.Machine
end

section
/-! The laws that do not speak of time: what an edge is made of, and a law as a property that a list of the state's operations
keep. -/

namespace Sys2Proof.Machine

open Sys2Proof.Safety

/-! ### The parts of an edge -/

/-- A property that the parts of a reference clock edge keep. -/
structure EdgeKept (P : State → Prop) : Prop where
  ftu : ∀ s f, P s → P { s with ftu := f }
  ports : ∀ s (ps : PerLink Port), (∀ l, (ps.get l).causes.handover = (s.port l).causes.handover) → P s →
    P { s with ports := ps }
  windowOpen : ∀ s b, P s → P { s with windowOpen := b }
  startBuild : ∀ s, P s → P s.startBuild
  complete : ∀ s, P s → P s.complete
  age : ∀ s b, s.builder = some b → P s → P { s with builder := some { b with age := b.age + 1 } }
  planFrameStart : ∀ s frame, P s → P (s.planFrameStart frame)
  window : ∀ s, P s → P { s with policy := s.policy.applyWindow }
  countdown : ∀ s, P s → P s.countdown

theorem countSlot_handover (p : Port) : p.countSlot.causes.handover = p.causes.handover := by
  rw [countSlot_causes]

section EdgeKept

variable {P : State → Prop} (h : EdgeKept P) {s : State} (hs : P s)

include h hs

theorem EdgeKept.mapPorts {f : Link → Port → Port} (hf : ∀ l p, (f l p).causes.handover = p.causes.handover) :
    P (s.mapPorts f) :=
  h.ports s _ (fun l => by rw [PerLink.get_of, hf]) hs

theorem EdgeKept.raiseTiming : P s.raiseTiming := h.mapPorts hs fun _ _ => rfl

theorem EdgeKept.slotEvent (k : Nat) : P (s.slotEvent k) := by
  have hu := h.mapPorts hs fun _ p => countSlot_handover p
  rcases slotEvent_cases s k with ⟨_, he⟩ | ⟨_, _, he⟩ | ⟨_, _, he⟩ <;> rw [he]
  · exact h.windowOpen _ _ hu
  · exact h.startBuild _ (h.windowOpen _ _ hu)
  · exact hu

theorem EdgeKept.slotEvents (ks : List Nat) : P (s.slotEvents ks) := by
  induction ks generalizing s with
  | nil => exact hs
  | cons k ks ih => exact ih (h.slotEvent hs k)

theorem EdgeKept.advance : P s.advance := h.slotEvents (h.ftu s _ hs) _

theorem EdgeKept.outstanding : P s.outstanding := h.slotEvents hs _

theorem EdgeKept.startFrame : P s.startFrame := by
  refine h.slotEvent (h.countdown _ (h.planFrameStart _ _ ?_)) 0
  exact h.window { s with ftu := s.ftu.startFrame } (h.ftu s _ hs)

theorem EdgeKept.relock : P s.relock := h.raiseTiming (h.ftu s _ hs)

theorem EdgeKept.expire : P s.expire := h.raiseTiming (h.ftu s _ hs)

theorem EdgeKept.goodPulse (k : Nat) : P (s.goodPulse k) := by
  unfold State.goodPulse
  split
  · exact h.relock hs
  · exact h.ftu s _ hs

theorem EdgeKept.ageBuild : P s.ageBuild := by
  unfold State.ageBuild
  split
  · exact hs
  · next b hb =>
    split
    · exact h.complete s hs
    · exact h.age s b hb hs

theorem EdgeKept.edgeLocked (pulse : Bool) : P (s.edgeLocked pulse) := by
  unfold State.edgeLocked
  dsimp only
  split
  · split
    · exact h.advance (h.ftu s _ hs)
    · exact h.startFrame (h.outstanding hs)
  · split
    · exact h.startFrame (h.expire (h.outstanding hs))
    · exact h.advance hs

theorem EdgeKept.edgeFree (pulse : Bool) : P (s.edgeFree pulse) := by
  have hstart := h.startFrame (h.ftu s s.ftu.raiseH hs)
  unfold State.edgeFree
  dsimp only
  split
  · split
    · exact h.goodPulse hstart _
    · exact hstart
  · split
    · split
      · exact h.startFrame (h.relock (h.outstanding hs))
      · split
        · exact h.advance (h.goodPulse hs _)
        · exact h.advance (h.ftu s _ hs)
    · exact h.advance hs

/-- What the parts of an edge keep, an edge keeps. -/
theorem EdgeKept.edge (level : Bool) : P (s.edge level) := by
  have hm := h.ftu _ (s.ageBuild.ftu.measure level (level && !s.ageBuild.ftu.sampled)) (h.ageBuild hs)
  unfold State.edge
  dsimp only
  split
  · exact h.edgeLocked hm _
  · exact h.edgeFree hm _
  · exact h.edgeFree hm _

end EdgeKept

/-! ### Laws about the policy, the table, the sectors, the queues and HANDOVER -/

/-- `t` agrees with `s` in the policy but for masks and pins, the table, the sectors, the queues and HANDOVER. -/
def Background (s t : State) : Prop :=
  t.policy = { s.policy with masks := t.policy.masks, pins := t.policy.pins } ∧ t.table = s.table ∧
    t.sectors = s.sectors ∧ t.queues = s.queues ∧ ∀ l, (t.port l).causes.handover = (s.port l).causes.handover

/-- A property of what `Background` compares, kept by each operation that changes any of it. -/
structure Law (P : State → Prop) : Prop where
  background : ∀ {s t}, Background s t → P s → P t
  window : ∀ s, P s → P { s with policy := s.policy.applyWindow }
  presence : ∀ s k, P s → P (s.evaluatePresence k)
  ages : ∀ s, P s → P s.raiseAges
  credits : ∀ s snap w, P s → P (s.commitCredits snap w)
  heads : ∀ s w, P s → P (s.commitHeads w)
  countdown : ∀ s, P s → P s.countdown
  reset : ∀ selected powerLow q, P (resetWith selected powerLow q)
  items : ∀ s items, firstRefused s 0 items = none → P s → P (applyItems s items).state
  rights : ∀ s j r, (r.policy = true ∨ ∃ q, q ≠ j ∧ (s.rights q).policy = true) → P s →
    P { s with policy := { s.policy with rights := s.policy.rights.set j r } }
  restart : ∀ s, P s → P s.restart
  admitted : ∀ s i id w rd ru cap, s.occupant i = none → id ≠ 0 → id ≤ 16777215 → s.findById id = none → P s →
    P (s.setRecord i { generation := nextGeneration (s.record i).generation
                       occupant := some (freshOccupant id (clampTerms w rd ru cap)) })
  terms : ∀ s i o w rd ru cap, s.occupant i = some o → P s →
    P (s.setOccupant i (some (o.setTerms (clampTerms w rd ru cap))))
  suspended : ∀ s i o b, s.occupant i = some o → P s → P (s.setOccupant i (some { o with suspended := b }))
  removed : ∀ s i o, s.occupant i = some o → P s → P (s.removed i)
  bind : ∀ s k l, (s.sector k).state = .unbound → s.boundSector l = none → P s → P (s.bindTo k l)
  release : ∀ s k j, (s.sector k).state.link? = some j → P s → P (s.releaseBinding k)
  attach : ∀ s k h i o, 1 ≤ h ∧ h ≤ 127 → s.occupant i = some o → o.attachment = .unbound → s.handleEntry k h = none →
    (s.sector k).state.link? ≠ none → P s → P (attachTaken s k h i o).state
  detach : ∀ s k h i o, s.lookup k h = some (i, o) → P s → P (detachTaken s k h i o).state
  flagged : ∀ s k, P s → P (s.flagged k)
  reported : ∀ s k entries u, (∀ r ∈ entries, r.demandDL ≤ 65535 ∧ r.demandUL ≤ 65535) → Reported s k entries u → P s →
    P u
  move : ∀ s k t h i o, s.lookup k h = some (i, o) → o.attachment.move? = none →
    (s.sector t).state.isPresent = true → (s.queue t).length < 8 → P s → P (moveTaken s k t h i o).state
  readNotice : ∀ s k n rest, s.queue k = n :: rest → P s → P (s.setQueue k rest)
  claim : ∀ s k t h h' n i o, 1 ≤ h' ∧ h' ≤ 127 → s.occupant i = some o → o.attachment = .moving k h t n →
    s.handleEntry t h' = none → (s.sector t).state.link? ≠ none → P s → P (claimTaken s k t h h' i o).state
  cancelMove : ∀ s i o k t h n, s.occupant i = some o → o.attachment = .moving k h t n → P s → P (s.cancelMoveOf i)

theorem background_raisePlanReady (s : State) (frame : Nat) : Background s (s.raisePlanReady frame) := by
  refine ⟨by simp, by simp, by simp, by simp, fun l => ?_⟩
  unfold State.raisePlanReady
  rw [port_mapPorts]
  split <;> rfl

section Law

variable {P : State → Prop} (h : Law P)

include h

/-- What does not change the policy, the table, the sectors, the queues or a port keeps a law. -/
theorem Law.same {s t : State} (hs : P s) (hp : t.policy = s.policy) (ht : t.table = s.table) (hv : t.sectors = s.sectors)
    (hq : t.queues = s.queues) (hl : t.ports = s.ports) : P t :=
  h.background ⟨by rw [hp], ht, hv, hq, fun l => by rw [port_congr hl]⟩ hs

theorem Law.presenceAll (s : State) (hs : P s) : P s.presence := by
  have : ∀ (ks : List SectorId) (s : State), P s → P (ks.foldl State.evaluatePresence s) := by
    intro ks
    induction ks with
    | nil => exact fun s hs => hs
    | cons k ks ih => exact fun s hs => ih _ (h.presence s k hs)
  exact this allSectors s hs

theorem Law.startBuild (s : State) (hs : P s) : P s.startBuild := by
  have hages := h.ages _ (h.presenceAll s hs)
  have hbuilder : ∀ (u : State) (b : Option Build), P u → P { u with builder := b } := fun u b hu =>
    h.same hu rfl rfl rfl rfl rfl
  exact hbuilder _ _ hages

theorem Law.complete (s : State) (hs : P s) : P s.complete := by
  unfold State.complete
  split
  · exact hs
  · exact h.background (background_raisePlanReady _ _)
      (h.heads _ _ (h.credits _ _ _ (h.same hs rfl rfl rfl rfl rfl)))

theorem Law.repeatLive (s : State) (frame : Nat) (abandoned : Bool) (hs : P s) : P (s.repeatLive frame abandoned) := by
  unfold State.repeatLive
  split
  · exact h.same hs rfl rfl rfl rfl rfl
  all_goals
    exact h.background (background_raisePlanReady _ _) (h.same hs rfl rfl rfl rfl rfl)

theorem Law.planFrameStart (s : State) (frame : Nat) (hs : P s) : P (s.planFrameStart frame) := by
  have hs' : P { s with builder := none } := h.same hs rfl rfl rfl rfl rfl
  unfold State.planFrameStart
  dsimp only
  split
  · split
    · exact h.same hs rfl rfl rfl rfl rfl
    · exact h.repeatLive _ _ _ hs'
  · exact h.repeatLive _ _ _ hs'

/-- A law is kept by the parts of an edge. -/
theorem Law.edgeKept : EdgeKept P where
  ftu _ _ hs := h.same hs rfl rfl rfl rfl rfl
  ports s _ hps hs := h.background (s := s) ⟨rfl, rfl, rfl, rfl, hps⟩ hs
  windowOpen _ _ hs := h.same hs rfl rfl rfl rfl rfl
  startBuild := h.startBuild
  complete := h.complete
  age _ _ _ hs := h.same hs rfl rfl rfl rfl rfl
  planFrameStart := h.planFrameStart
  window := h.window
  countdown := h.countdown

theorem Law.taken {l : Link} {s : State} {kind : ReqKind} {u : State} (hu : Taken l s kind u) (hs : P s) : P u := by
  cases hu with
  | same => exact hs
  | ownPort _ p hp =>
    refine h.background ⟨rfl, rfl, rfl, rfl, fun j => ?_⟩ hs
    by_cases hj : j = l
    · subst hj; rw [port_setPort_same, hp]
    · rw [port_setPort_other _ _ hj]
  | setPolicy items hi => exact h.items s items hi hs
  | setBarMask => exact h.background (s := s) ⟨rfl, rfl, rfl, rfl, fun _ => rfl⟩ hs
  | restart => exact h.restart s hs
  | setTiming => exact h.same hs rfl rfl rfl rfl rfl
  | admitted i id w rd ru cap hi h0 hid hun => exact h.admitted s i id w rd ru cap hi h0 hid hun hs
  | setTerms i o w rd ru cap ho => exact h.terms s i o w rd ru cap ho hs
  | suspend i o ho =>
    exact h.same (h.suspended s i o true ho hs) rfl rfl rfl rfl rfl
  | resume i o ho => exact h.suspended s i o false ho hs
  | remove i o ho => exact h.removed s i o ho hs
  | bind k hk hl => exact h.bind s k l hk hl hs
  | release k hk => exact h.release s k l (link_of_boundSector hk) hs
  | pin k pin => exact h.background (s := s) ⟨rfl, rfl, rfl, rfl, fun _ => rfl⟩ hs
  | pinEnds k pin j hj => exact h.release _ k j hj (h.background (s := s) ⟨rfl, rfl, rfl, rfl, fun _ => rfl⟩ hs)
  | attach k hn i o hk hh ho ha hfree =>
    exact h.attach s k hn i o hh ho ha hfree (by rw [link_of_boundSector hk]; simp) hs
  | detach k hn i o _ hl => exact h.detach s k hn i o hl hs
  | demandBatch k entries u hfit hu => exact h.reported _ k entries u hfit hu (h.flagged s k hs)
  | move k t hn i o _ hl hm ht hq => exact h.move s k t hn i o hl hm ht hq hs
  | readNotice k n rest _ hq => exact h.readNotice s k n rest hq hs
  | claim k t hn h' n i o hk hh ho ha hfree =>
    exact h.claim s k t hn h' n i o hh ho ha hfree (by rw [link_of_boundSector hk]; simp) hs
  | cancelMove i o k t hn n ho ha => exact h.cancelMove s i o k t hn n ho ha hs
  | rights j r hp => exact h.rights s j r hp hs
  | rightsRelease j r k hp hk => exact h.release _ k j (link_of_boundSector hk) (h.rights s j r hp hs)

/-- A law is kept by every part of a step. -/
theorem Law.kept : Kept P where
  pending _ _ hs := h.same hs rfl rfl rfl rfl rfl
  powerLow _ _ hs := h.same hs rfl rfl rfl rfl rfl
  reset := h.reset
  ports s _ hps hs := h.background (s := s) ⟨rfl, rfl, rfl, rfl, hps⟩ hs
  edge _ level hs := h.edgeKept.edge hs level
  complete := h.complete
  taken := h.taken

end Law

end Sys2Proof.Machine
end

section
/-! Proofs that every step keeps the laws of the policy and the rights, of the subscriber records, and of the bindings. -/

namespace Sys2Proof.Machine

open Sys2Proof.Safety

/-! ### What the items of SET POLICY keep -/

/-- A list whose items all pass the check leaves what each passing item leaves. -/
theorem applyItems_keeps {P : State → Prop} {s : State}
    (hitem : ∀ u item, checkItem s item = none → P u → P (applyItem u item).state)
    {items : List (Byte × Byte × Byte)} {pos : Nat} (h : firstRefused s pos items = none) {u : State} (hu : P u) :
    P (applyItems u items).state := by
  induction items generalizing pos u with
  | nil => exact hu
  | cons it rest ih =>
    obtain ⟨i, lo, hi⟩ := it
    simp only [firstRefused] at h
    unfold applyItems
    split at h
    · cases h
    · next item hpi =>
      split at h
      · cases h
      · next hc => simpa only [hpi] using ih h (hitem u item hc hu)

/-- N acts on the policy's N alone. -/
theorem setN_policy (s : State) (n : Nat) : (s.setN n).policy = { s.policy with n := n } := by
  rw [(setN_frame s n).1]

/-- N puts each sector where R13 has it. -/
theorem sector_setN (s : State) (n : Nat) (k : SectorId) : (s.setN n).sector k = sectorForN n k (s.sector k) := by
  unfold State.setN
  dsimp only
  split <;> exact PerSector.get_of _ k

/-! ### Laws of the policy (R8, R160) -/

/-- A property of the policy but for masks and pins, kept where the policy changes. -/
theorem Law.of_policy {P : State → Prop}
    (hcongr : ∀ {s t : State}, t.policy = { s.policy with masks := t.policy.masks, pins := t.policy.pins } → P s → P t)
    (hwindow : ∀ s, P s → P { s with policy := s.policy.applyWindow })
    (hreset : ∀ selected powerLow q, P (resetWith selected powerLow q))
    (hitems : ∀ s items, firstRefused s 0 items = none → P s → P (applyItems s items).state)
    (hrights : ∀ s j r, (r.policy = true ∨ ∃ q, q ≠ j ∧ (s.rights q).policy = true) → P s →
      P { s with policy := { s.policy with rights := s.policy.rights.set j r } }) : Law P :=
  have same : ∀ {s t : State}, t.policy = s.policy → P s → P t := fun h hs => hcongr (by rw [h]) hs
  { background := fun h => hcongr h.1
    window := hwindow
    presence := fun s k => same (evaluatePresence_policy s k)
    ages := fun s => same (raiseAges_policy s)
    credits := fun s snap w => same (commitCredits_policy s snap w)
    heads := fun s w => same (commitHeads_policy s w)
    countdown := fun s => same (countdown_policy s)
    reset := hreset
    items := hitems
    rights := hrights
    restart := fun s => same (restart_policy s)
    admitted := fun _ _ _ _ _ _ _ _ _ _ _ => same rfl
    terms := fun _ _ _ _ _ _ _ _ => same rfl
    suspended := fun _ _ _ _ _ => same rfl
    removed := fun s i _ _ => same (by rw [removed_frame s i])
    bind := fun _ _ _ _ _ => same rfl
    release := fun s k _ _ => same (releaseBinding_policy s k)
    attach := fun _ _ _ _ _ _ _ _ _ _ => same rfl
    detach := fun s k h i o _ => same (by rw [detachTaken_frame s k h i o])
    flagged := fun _ _ => same rfl
    reported := fun _ _ _ _ _ hu => same hu.policy
    move := fun s k t h i o _ _ _ _ => same (by rw [moveTaken_frame s k t h i o])
    readNotice := fun s k _ _ _ => same (setQueue_policy s k _)
    claim := fun s k t h h' _ i o _ _ _ _ _ => same (by rw [claimTaken_frame s k t h h' i o])
    cancelMove := fun s i _ _ _ _ _ _ _ => same (cancelMoveOf_policy s i) }

theorem policyInRange_reset (selected : Link → Bool) (powerLow : Bool) (q : List Instr) :
    PolicyInRange (resetWith selected powerLow q) := by
  simp [PolicyInRange, windowOk, resetWith, State.reset, Policy.reset]

/-- An item that passes its check leaves every parameter in its range: the window pair was checked, the others are
clamped (R12). -/
theorem policyInRange_applyItem {s u : State} {item : PolicyItem} (hc : checkItem s item = none) (hu : PolicyInRange u) :
    PolicyInRange (applyItem u item).state := by
  cases item with
  | n v =>
    have := clampTo_mem (lo := 1) (hi := 3) (by decide) v
    simp only [applyItem, appliedValue, PolicyInRange, setN_policy] at hu ⊢
    exact ⟨this, hu.2⟩
  | window o w =>
    have hok : windowOk { o := o, w := w } := by
      by_contra hne
      rw [checkItem, if_neg (c := o < w ∧ w ≤ 15) hne] at hc
      cases hc
    simp only [applyItem, PolicyInRange, State.setPolicy] at hu ⊢
    obtain ⟨hn, hd, hw, -, hrest⟩ := hu
    exact ⟨hn, hd, hw, fun v hv => by cases hv; exact hok, hrest⟩
  | adjacency v => exact hu
  | _ =>
    obtain ⟨hn, hd, hw, hp, hg, hu, hz, he, hbn, hbl, hm, hhlim, halim, hhold⟩ := hu
    simp only [applyItem, appliedValue, PolicyInRange, State.setPolicy, clampTo]
    exact ⟨by omega, by omega, hw, hp, by omega, by omega, by omega, by omega, by omega, by omega, by omega, by omega,
      by omega, by omega⟩

theorem policyInRange_law : Law PolicyInRange :=
  .of_policy (fun h hs => by unfold PolicyInRange at *; rw [h]; exact hs)
    (fun s hs => by
      obtain ⟨hn, hd, hw, hp, hrest⟩ := hs
      refine ⟨hn, hd, ?_, fun v hv => by simp [Policy.applyWindow] at hv, hrest⟩
      show windowOk (s.policy.pendingWindow.getD s.policy.window)
      rcases Option.eq_none_or_eq_some s.policy.pendingWindow with h | ⟨v, h⟩
      · rw [h]; exact hw
      · rw [h]; exact hp v h)
    policyInRange_reset
    (fun _ _ hi hs => applyItems_keeps (fun _ _ => policyInRange_applyItem) hi hs)
    (fun _ _ _ _ hs => hs)

/-- An item of SET POLICY leaves the rights alone. -/
theorem applyItem_rights (s : State) (item : PolicyItem) : (applyItem s item).state.policy.rights = s.policy.rights := by
  cases item with
  | n v => simp only [applyItem, appliedValue, setN_policy]
  | _ => rfl

theorem somePolicyHolder_law : Law SomePolicyHolder :=
  .of_policy (fun {s t} h hs => by
      obtain ⟨l, hl⟩ := hs
      exact ⟨l, by unfold State.rights at *; rw [h]; exact hl⟩)
    (fun _ hs => hs)
    (fun selected powerLow q => ⟨.l0, by rw [rights_resetWith]⟩)
    (fun s items hi hs => applyItems_keeps (P := SomePolicyHolder)
      (fun u item _ hu => by
        obtain ⟨l, hl⟩ := hu
        exact ⟨l, by unfold State.rights at *; rw [applyItem_rights]; exact hl⟩) hi hs)
    (fun s j r hr hs => by
      rcases hr with hr | ⟨q, hq, hpol⟩
      · exact ⟨j, by unfold State.rights; rw [PerLink.get_set_same, hr]⟩
      · exact ⟨q, by unfold State.rights at *; rw [PerLink.get_set_other _ _ hq, hpol]⟩)

/-- Settles O54: both are laws of the policy alone. -/
theorem policyLawsKept : Obligations.PolicyLawsKept :=
  ⟨fun _ _ hs ht => policyInRange_law.kept.step hs ht, fun _ _ hs ht => somePolicyHolder_law.kept.step hs ht⟩

/-! ### What an operation makes of the records -/

/-- What one operation can make of the occupant of a record it does not free. -/
inductive Evolves (p : Policy) : Occupant → Occupant → Prop
  | same (o : Occupant) : Evolves p o o
  | terms (o : Occupant) (w rd ru cap : Byte) : Evolves p o (o.setTerms (clampTerms w rd ru cap))
  | suspended (o : Occupant) (b : Bool) : Evolves p o { o with suspended := b }
  | attached (o : Occupant) (k : SectorId) (h : Nat) : Evolves p o (o.attached k h)
  | detached (o : Occupant) : Evolves p o o.detached
  | report (o : Occupant) (r : ReportEntry) (hr : r.demandDL ≤ 65535 ∧ r.demandUL ≤ 65535) : Evolves p o (o.report p.e r)
  | settled (o : Occupant) : Evolves p o { o with attachment := o.attachment.settled }
  | moving (o : Occupant) (k t : SectorId) (h : Nat) :
      Evolves p o { o with attachment := .moving k h t p.hlim, lapse := none }
  | claimed (o : Occupant) (t : SectorId) (h : Nat) : Evolves p o { o with attachment := .active t h }
  | countdown (o : Occupant) : Evolves p o o.countdown
  | aged (o : Occupant) : Evolves p o { o with age := satSucc 255 o.age }
  | credits (o : Occupant) (c d : Nat) :
      Evolves p o { o with creditDL := committed c o.terms.weight, creditUL := committed d o.terms.weight }

/-- From `s` to `t` generations stay, and each occupant comes from one of the same record. -/
structure TableStep (s t : State) : Prop where
  generation : ∀ i, (t.record i).generation = (s.record i).generation
  occupant : ∀ i o', t.occupant i = some o' → ∃ o, s.occupant i = some o ∧ Evolves s.policy o o'

theorem TableStep.of_table {s t : State} (h : t.table = s.table) : TableStep s t where
  generation i := by rw [record_congr h]
  occupant i o' ho := ⟨o', by rw [← occupant_congr h]; exact ho, .same o'⟩

/-- An operation that maps the occupants. -/
theorem TableStep.of_map {s t : State} {f : RecIdx → Occupant → Occupant}
    (hg : ∀ i, (t.record i).generation = (s.record i).generation)
    (hf : ∀ i, t.occupant i = (s.occupant i).map (f i)) (he : ∀ i o, Evolves s.policy o (f i o)) : TableStep s t where
  generation := hg
  occupant i o' ho := by
    rw [hf, Option.map_eq_some_iff] at ho
    obtain ⟨o, ho, rfl⟩ := ho
    exact ⟨o, ho, he i o⟩

/-- An operation that writes one record. -/
theorem TableStep.of_record {s t : State} {i : RecIdx} {q : Option Occupant}
    (hi : t.record i = { generation := (s.record i).generation, occupant := q })
    (hj : ∀ j, j ≠ i → t.record j = s.record j)
    (hq : ∀ o', q = some o' → ∃ o, s.occupant i = some o ∧ Evolves s.policy o o') : TableStep s t where
  generation j := by
    by_cases h : j = i
    · subst h; rw [hi]
    · rw [hj j h]
  occupant j o' ho := by
    by_cases h : j = i
    · subst h
      exact hq o' (by rw [← ho, State.occupant, hi])
    · rw [State.occupant, hj j h] at ho
      exact ⟨o', ho, .same o'⟩

theorem record_setOccupant_same (s : State) (i : RecIdx) (q : Option Occupant) :
    (s.setOccupant i q).record i = { generation := (s.record i).generation, occupant := q } := by
  rw [State.setOccupant, record_setRecord_same]

theorem record_setOccupant_other (s : State) {i j : RecIdx} (q : Option Occupant) (h : j ≠ i) :
    (s.setOccupant i q).record j = s.record j := by
  rw [State.setOccupant, record_setRecord_other s _ h]

theorem tableStep_setOccupant {s : State} {i : RecIdx} {o o' : Occupant} (ho : s.occupant i = some o)
    (he : Evolves s.policy o o') : TableStep s (s.setOccupant i (some o')) :=
  .of_record (record_setOccupant_same s i _) (fun _ hj => record_setOccupant_other s _ hj)
    fun _ h => by cases h; exact ⟨o, ho, he⟩

theorem evolves_settleIf (p : Policy) (f : SectorId → Bool) (o : Occupant) : Evolves p o (o.settleIf f) := by
  have hattachment : o.attachment.settleIf f = o.attachment ∨ o.attachment.settleIf f = o.attachment.settled := by
    cases o.attachment with
    | unbound => exact .inl rfl
    | active k h => exact .inl rfl
    | moving k h t n =>
      by_cases hf : f t = true
      · exact .inr (if_pos hf)
      · exact .inl (if_neg hf)
  unfold Occupant.settleIf
  rcases hattachment with h | h <;> rw [h]
  · exact .same o
  · exact .settled o

/-- The occupants after the countdown of a frame start (R147). -/
theorem foldl_setQueue_table (q : SectorId → List Notice) (ks : List SectorId) (u : State) :
    (ks.foldl (fun t k => t.setQueue k (q k)) u).table = u.table := by
  induction ks generalizing u with
  | nil => rfl
  | cons k ks ih => rw [List.foldl_cons, ih, setQueue_table]

theorem countdown_record (s : State) (i : RecIdx) :
    s.countdown.record i =
      { generation := (s.record i).generation, occupant := (s.occupant i).map Occupant.countdown } := by
  rw [State.countdown, record_congr (foldl_setQueue_table _ _ _), record_mapOccupants]

theorem tableStep_countdown (s : State) : TableStep s s.countdown :=
  .of_map (f := fun _ => Occupant.countdown) (fun i => by rw [countdown_record])
    (fun i => by rw [State.occupant, countdown_record]) fun _ o => .countdown o

theorem tableStep_raiseAges (s : State) : TableStep s s.raiseAges :=
  .of_map (fun i => by rw [State.raiseAges, record_mapOccupants]) (fun i => by rw [State.raiseAges, occupant_mapOccupants])
    fun i o => by
      split
      · exact .aged o
      · exact .same o

theorem tableStep_commitCredits (s : State) (snap : Snapshot) (w : Work) : TableStep s (s.commitCredits snap w) :=
  .of_map (fun i => by rw [State.commitCredits, record_mapOccupants])
    (fun i => by rw [State.commitCredits, occupant_mapOccupants])
    fun i o => by
      split
      · split
        · exact .credits o _ _
        · exact .same o
      · exact .same o

theorem tableStep_releaseBinding (s : State) (k : SectorId) : TableStep s (s.releaseBinding k) := by
  obtain ⟨-, -, hg, hnone, hsome, -⟩ := released_releaseBinding s k
  refine ⟨hg, fun i o' ho' => ?_⟩
  rcases Option.eq_none_or_eq_some (s.occupant i) with ho | ⟨o, ho⟩
  · rw [hnone i ho] at ho'; cases ho'
  · refine ⟨o, ho, ?_⟩
    obtain ⟨hmov, hother⟩ := hsome i o ho
    by_cases hm : ∃ h n f, o.attachment = .moving h n k f
    · obtain ⟨h, n, f, ha⟩ := hm
      rw [hmov h n f ha] at ho'
      cases ho'
      simpa [ha, Attachment.settled] using Evolves.settled (p := s.policy) o
    · push Not at hm
      rw [hother hm] at ho'
      cases ho'
      exact .same _

theorem tableStep_reported {s u : State} {k : SectorId} {entries : List ReportEntry}
    (hfit : ∀ r ∈ entries, r.demandDL ≤ 65535 ∧ r.demandUL ≤ 65535) (hu : Reported s k entries u) : TableStep s u :=
  .of_map hu.generation hu.occupant fun i o => by
    rcases Option.eq_none_or_eq_some (s.standing k entries i) with h | ⟨r, h⟩
    · rw [afterBatch_of_none h]; exact .same o
    · rw [afterBatch_of_some h]
      exact .report o r (hfit r (List.mem_of_mem_filter (List.mem_of_getLast? h)))

/-- A property of the records, under a law of the policy, that each evolution and each admission keeps. -/
theorem Law.of_table {R P : State → Prop} (hR : Law R) (hstep : ∀ {s t : State}, R s → TableStep s t → P s → P t)
    (hadmit : ∀ s i id w rd ru cap, s.occupant i = none → id ≠ 0 → id ≤ 16777215 → s.findById id = none → P s →
      P (s.setRecord i { generation := nextGeneration (s.record i).generation
                         occupant := some (freshOccupant id (clampTerms w rd ru cap)) }))
    (hreset : ∀ selected powerLow q, P (resetWith selected powerLow q)) : Law fun s => R s ∧ P s where
  background h hs := ⟨hR.background h hs.1, hstep hs.1 (.of_table h.2.1) hs.2⟩
  window s hs := ⟨hR.window s hs.1, hstep hs.1 (.of_table rfl) hs.2⟩
  presence s k hs := ⟨hR.presence s k hs.1, hstep hs.1 (.of_map (generation_evaluatePresence s k)
    (occupant_evaluatePresence s k) fun _ o => evolves_settleIf _ _ o) hs.2⟩
  ages s hs := ⟨hR.ages s hs.1, hstep hs.1 (tableStep_raiseAges s) hs.2⟩
  credits s snap w hs := ⟨hR.credits s snap w hs.1, hstep hs.1 (tableStep_commitCredits s snap w) hs.2⟩
  heads s w hs := ⟨hR.heads s w hs.1, hstep hs.1 (.of_table rfl) hs.2⟩
  countdown s hs := ⟨hR.countdown s hs.1, hstep hs.1 (tableStep_countdown s) hs.2⟩
  reset selected powerLow q := ⟨hR.reset selected powerLow q, hreset selected powerLow q⟩
  items s items hi hs := ⟨hR.items s items hi hs.1,
    hstep hs.1 (.of_table (by rw [(applyItems_frame s items).1])) hs.2⟩
  rights s j r hr hs := ⟨hR.rights s j r hr hs.1, hstep hs.1 (.of_table rfl) hs.2⟩
  restart s hs := ⟨hR.restart s hs.1, hstep hs.1
    ⟨fun i => by rw [record_restart], fun i _ ho => by rw [State.occupant, record_restart] at ho; cases ho⟩ hs.2⟩
  admitted s i id w rd ru cap hi h0 hid hun hs :=
    ⟨hR.admitted s i id w rd ru cap hi h0 hid hun hs.1, hadmit s i id w rd ru cap hi h0 hid hun hs.2⟩
  terms s i o w rd ru cap ho hs := ⟨hR.terms s i o w rd ru cap ho hs.1,
    hstep hs.1 (tableStep_setOccupant ho (.terms o w rd ru cap)) hs.2⟩
  suspended s i o b ho hs := ⟨hR.suspended s i o b ho hs.1,
    hstep hs.1 (tableStep_setOccupant ho (.suspended o b)) hs.2⟩
  removed s i o ho hs := ⟨hR.removed s i o ho hs.1,
    hstep hs.1 (.of_record (record_removed_same s i) (fun _ hj => record_removed_other s hj) fun _ h => by cases h) hs.2⟩
  bind s k l hk hl hs := ⟨hR.bind s k l hk hl hs.1, hstep hs.1 (.of_table rfl) hs.2⟩
  release s k j hj hs := ⟨hR.release s k j hj hs.1, hstep hs.1 (tableStep_releaseBinding s k) hs.2⟩
  attach s k h i o hh ho ha hfree hb hs := ⟨hR.attach s k h i o hh ho ha hfree hb hs.1,
    hstep hs.1 (.of_record (record_setOccupant_same _ i _) (fun _ hj => record_setOccupant_other _ _ hj)
      fun _ he => by cases he; exact ⟨o, ho, .attached o k h⟩) hs.2⟩
  detach s k h i o hl hs := ⟨hR.detach s k h i o hl hs.1,
    hstep hs.1 (.of_record (record_detachTaken_same s k h i o) (fun _ hj => record_detachTaken_other s k h i o hj)
      fun _ he => by cases he; exact ⟨o, (lookup_some hl).1, .detached o⟩) hs.2⟩
  flagged s k hs := ⟨hR.flagged s k hs.1, hstep hs.1 (.of_table rfl) hs.2⟩
  reported s k entries u hfit hu hs := ⟨hR.reported s k entries u hfit hu hs.1,
    hstep hs.1 (tableStep_reported hfit hu) hs.2⟩
  move s k t h i o hl hm ht hq hs := ⟨hR.move s k t h i o hl hm ht hq hs.1,
    hstep hs.1 (.of_record (record_moveTaken_same s k t h i o) (fun _ hj => record_moveTaken_other s k t h i o hj)
      fun _ he => by cases he; exact ⟨o, (lookup_some hl).1, .moving o k t h⟩) hs.2⟩
  readNotice s k n rest hq hs := ⟨hR.readNotice s k n rest hq hs.1,
    hstep hs.1 (.of_table (setQueue_table s k rest)) hs.2⟩
  claim s k t h h' n i o hh ho ha hfree hb hs := ⟨hR.claim s k t h h' n i o hh ho ha hfree hb hs.1,
    hstep hs.1 (.of_record (record_claimTaken_same s k t h h' i o) (fun _ hj => record_claimTaken_other s k t h h' i o hj)
      fun _ he => by cases he; exact ⟨o, ho, .claimed o t h'⟩) hs.2⟩
  cancelMove s i o k t h n ho ha hs := ⟨hR.cancelMove s i o k t h n ho ha hs.1,
    hstep hs.1 (.of_record (record_cancelMoveOf_same ho ha) (fun _ hj => cancelMoveOf_record_other s hj)
      fun _ he => by
        cases he
        refine ⟨o, ho, ?_⟩
        simpa [ha, Attachment.settled] using Evolves.settled (p := s.policy) o) hs.2⟩

/-! ### Laws of the records (R35, R41, R44) -/

/-- The law that says nothing. -/
theorem trivial_law : Law fun _ => True :=
  .of_policy (fun _ _ => trivial) (fun _ _ => trivial) (fun _ _ _ => trivial) (fun _ _ _ _ => trivial)
    fun _ _ _ _ _ => trivial

/-- No operation changes the id of a record in use. -/
theorem Evolves.id {p : Policy} {o o' : Occupant} (h : Evolves p o o') : o'.id = o.id := by
  cases h with
  | countdown =>
    unfold Occupant.countdown
    split
    · rfl
    · rfl
    · split <;> rfl
  | _ => rfl

theorem occupant_resetWith (selected : Link → Bool) (powerLow : Bool) (q : List Instr) (i : RecIdx) :
    (resetWith selected powerLow q).occupant i = none := by
  rw [State.occupant, record_resetWith]

/-- The occupants after an admission. -/
theorem occupant_setRecord (s : State) (i j : RecIdx) (r : Record) :
    (s.setRecord i r).occupant j = if j = i then r.occupant else s.occupant j := by
  by_cases h : j = i
  · subst h; rw [if_pos rfl, State.occupant, record_setRecord_same]
  · rw [if_neg h, State.occupant, record_setRecord_other s r h]; rfl

/-- An id that is not found is held by no record. -/
theorem idUnused_of_findById {s : State} {id : Nat} (h : s.findById id = none) : IdUnused s id := by
  intro j q hq hid
  rw [State.findById, List.findSome?_eq_none_iff] at h
  have := h j (mem_allRecords j)
  rw [show s.occupant j = some q from hq] at this
  simp [hid] at this

theorem idsUnique_law : Law fun s => True ∧ IdsUnique s := by
  refine .of_table trivial_law (fun {s t} _ hst hs => ?step) (fun s i id w rd ru cap hi h0 hid hun hs => ?admitted)
    fun selected powerLow q => ?reset
  case step =>
    obtain ⟨hzero, hunique⟩ := hs
    refine ⟨fun i o' ho' => ?_, fun i j oi' oj' hi' hj' heq => ?_⟩
    · obtain ⟨o, ho, he⟩ := hst.occupant i o' ho'
      rw [he.id]
      exact hzero i o ho
    · obtain ⟨oi, hi, hei⟩ := hst.occupant i oi' hi'
      obtain ⟨oj, hj, hej⟩ := hst.occupant j oj' hj'
      exact hunique i j oi oj hi hj (by rw [← hei.id, ← hej.id, heq])
  case admitted =>
    obtain ⟨hzero, hunique⟩ := hs
    have hun := idUnused_of_findById hun
    refine ⟨fun j o ho => ?_, fun j j' oj oj' hj hj' heq => ?_⟩
    · rw [occupant_setRecord] at ho
      split at ho
      · cases ho; exact h0
      · exact hzero j o ho
    · rw [occupant_setRecord] at hj hj'
      split at hj <;> split at hj'
      · next h h' => rw [h, h']
      · cases hj; exact absurd heq.symm (hun j' oj' hj')
      · cases hj'; exact absurd heq (hun j oj hj)
      · exact hunique j j' oj oj' hj hj' heq
  case reset =>
    refine ⟨fun i o ho => ?_, fun i j oi oj hi => ?_⟩
    · rw [occupant_resetWith] at ho
      cases ho
    · rw [occupant_resetWith] at hi
      cases hi

/-- A property of each occupant, under a law of the policy, that evolutions keep and a new subscriber has. -/
theorem Law.of_occupants {R : State → Prop} {Q : Occupant → Prop} (hR : Law R)
    (hstep : ∀ {s : State} {o o' : Occupant}, R s → Evolves s.policy o o' → Q o → Q o')
    (hfresh : ∀ id w rd ru cap, id ≠ 0 → id ≤ 16777215 → Q (freshOccupant id (clampTerms w rd ru cap))) :
    Law fun s => R s ∧ ∀ i o, s.occupant i = some o → Q o := by
  refine .of_table hR (fun {s t} hr hst hs i o' ho' => ?step) (fun s i id w rd ru cap hi h0 hid hun hs j o ho => ?admitted)
    fun selected powerLow q i o ho => ?reset
  case step =>
    obtain ⟨o, ho, he⟩ := hst.occupant i o' ho'
    exact hstep hr he (hs i o ho)
  case admitted =>
    rw [occupant_setRecord] at ho
    split at ho
    · cases ho; exact hfresh id w rd ru cap h0 hid
    · exact hs j o ho
  case reset =>
    rw [occupant_resetWith] at ho
    cases ho

/-- The credits of a record are at most 4 times its weight (R41). -/
def creditsOk (o : Occupant) : Prop := o.creditDL ≤ 4 * o.terms.weight ∧ o.creditUL ≤ 4 * o.terms.weight

/-- Each change of a record clamps its credits, sets them to 0 or leaves them. -/
theorem Evolves.creditsOk {p : Policy} {o o' : Occupant} (h : Evolves p o o') (ho : creditsOk o) : creditsOk o' := by
  cases h with
  | terms w rd ru cap => exact ⟨Nat.min_le_right _ _, Nat.min_le_right _ _⟩
  | attached k h => exact ⟨Nat.zero_le _, Nat.zero_le _⟩
  | detached => exact ⟨Nat.zero_le _, Nat.zero_le _⟩
  | credits c d => exact ⟨Nat.min_le_right _ _, Nat.min_le_right _ _⟩
  | countdown =>
    unfold Occupant.countdown
    split
    · exact ho
    · exact ho
    · split <;> exact ho
  | _ => exact ho

theorem creditsBounded_law : Law fun s => True ∧ CreditsBounded s :=
  .of_occupants trivial_law (fun _ he => he.creditsOk) fun _ _ _ _ _ _ _ => ⟨Nat.zero_le _, Nat.zero_le _⟩

/-- The ranges of E and Hlim, which a report and a MOVE copy into a record. -/
def CopiedInRange (s : State) : Prop := s.policy.e ≤ 1023 ∧ (1 ≤ s.policy.hlim ∧ s.policy.hlim ≤ 63)

theorem copiedInRange_applyItem {u : State} {item : PolicyItem} (hu : CopiedInRange u) :
    CopiedInRange (applyItem u item).state := by
  cases item with
  | n v => simpa only [applyItem, appliedValue, CopiedInRange, setN_policy] using hu
  | e v => exact ⟨(clampTo_mem (by decide) v).2, hu.2⟩
  | hlim v => exact ⟨hu.1, clampTo_mem (by decide) v⟩
  | _ => exact hu

theorem copiedInRange_law : Law CopiedInRange :=
  .of_policy (fun h hs => by unfold CopiedInRange at *; rw [h]; exact hs) (fun _ hs => hs)
    (fun _ _ _ => by simp [CopiedInRange, resetWith, State.reset, Policy.reset])
    (fun _ _ hi hs => applyItems_keeps (fun _ _ _ => copiedInRange_applyItem) hi hs)
    (fun _ _ _ _ hs => hs)

/-- The fields of a record lie in the ranges of R35's table. -/
def occupantOk (o : Occupant) : Prop :=
  (1 ≤ o.id ∧ o.id ≤ 16777215) ∧ termsOk o.terms ∧ o.demandDL ≤ 65535 ∧ o.demandUL ≤ 65535 ∧ o.cls ≤ 7 ∧
    o.ta ≤ 1023 ∧ o.age ≤ 255 ∧ ∀ m ∈ o.attachment.move?, 1 ≤ m.2 ∧ m.2 ≤ 63

theorem termsOk_clampTerms (w rd ru cap : Byte) : termsOk (clampTerms w rd ru cap) := by
  simp only [termsOk, clampTerms, clampTo]
  omega

/-- A record that is not MOVING shows no frames. -/
theorem frames_of_settled {a : Attachment} (h : a.move? = none) : ∀ m ∈ a.move?, 1 ≤ m.2 ∧ m.2 ≤ 63 := by
  rw [h]
  intro m hm
  cases hm

theorem move_settled (a : Attachment) : a.settled.move? = none := by
  cases a <;> rfl

/-- Each change of a record writes values in range or leaves them. -/
theorem Evolves.occupantOk {p : Policy} {o o' : Occupant} (hp : p.e ≤ 1023 ∧ (1 ≤ p.hlim ∧ p.hlim ≤ 63))
    (h : Evolves p o o') (ho : occupantOk o) : occupantOk o' := by
  obtain ⟨hid, hterms, hdl, hul, hcls, hta, hage, hmove⟩ := ho
  cases h with
  | same => exact ⟨hid, hterms, hdl, hul, hcls, hta, hage, hmove⟩
  | terms w rd ru cap => exact ⟨hid, termsOk_clampTerms w rd ru cap, hdl, hul, hcls, hta, hage, hmove⟩
  | suspended b => exact ⟨hid, hterms, hdl, hul, hcls, hta, hage, hmove⟩
  | attached k h =>
    exact ⟨hid, hterms, Nat.zero_le _, Nat.zero_le _, Nat.zero_le _, Nat.zero_le _, Nat.zero_le _, frames_of_settled rfl⟩
  | detached => exact ⟨hid, hterms, Nat.zero_le _, Nat.zero_le _, hcls, hta, hage, frames_of_settled rfl⟩
  | report r hr =>
    exact ⟨hid, hterms, hr.1, hr.2, Nat.min_le_right _ _, (Nat.min_le_right _ _).trans hp.1, Nat.zero_le _, hmove⟩
  | settled => exact ⟨hid, hterms, hdl, hul, hcls, hta, hage, frames_of_settled (move_settled _)⟩
  | moving k t h => exact ⟨hid, hterms, hdl, hul, hcls, hta, hage, fun m hm => by cases hm; exact hp.2⟩
  | claimed t h => exact ⟨hid, hterms, hdl, hul, hcls, hta, hage, frames_of_settled rfl⟩
  | countdown =>
    cases ha : o.attachment with
    | unbound =>
      rw [Occupant.countdown, ha]
      exact ⟨hid, hterms, hdl, hul, hcls, hta, hage, hmove⟩
    | active k h =>
      rw [Occupant.countdown, ha]
      exact ⟨hid, hterms, hdl, hul, hcls, hta, hage, hmove⟩
    | moving k h t n =>
      have hn := hmove (t, n) (by rw [ha]; rfl)
      simp only [Occupant.countdown, ha]
      split
      · exact ⟨hid, hterms, hdl, hul, hcls, hta, hage, frames_of_settled rfl⟩
      · exact ⟨hid, hterms, hdl, hul, hcls, hta, hage, fun m hm => by cases hm; dsimp only at hn ⊢; omega⟩
  | aged => exact ⟨hid, hterms, hdl, hul, hcls, hta, Nat.min_le_right _ _, hmove⟩
  | credits c d => exact ⟨hid, hterms, hdl, hul, hcls, hta, hage, hmove⟩

theorem occupantsInRange_law : Law fun s => CopiedInRange s ∧ ∀ i o, s.occupant i = some o → occupantOk o :=
  .of_occupants copiedInRange_law (fun hr he => he.occupantOk hr) fun _ w rd ru cap h0 hid =>
    ⟨⟨Nat.one_le_iff_ne_zero.2 h0, hid⟩, termsOk_clampTerms w rd ru cap, Nat.zero_le _, Nat.zero_le _, Nat.zero_le _,
      Nat.zero_le _, Nat.zero_le _, frames_of_settled rfl⟩

theorem generations_law : Law fun s => True ∧ ∀ i, (s.record i).generation ≤ 255 := by
  refine .of_table trivial_law (fun _ hst hs i => by rw [hst.generation]; exact hs i)
    (fun s i id w rd ru cap _ _ _ _ hs j => ?_) fun selected powerLow q i => by rw [record_resetWith]; decide
  by_cases h : j = i
  · subst h
    rw [record_setRecord_same]
    exact Nat.lt_succ_iff.1 (Nat.mod_lt _ (by decide))
  · rw [record_setRecord_other _ _ h]
    exact hs j

/-- Settles O57: ids stay, credits are clamped, and the fields are written in range. -/
theorem subscriberLawsKept : Obligations.SubscriberLawsKept := by
  refine ⟨fun s t hs ht => (idsUnique_law.kept.step ⟨trivial, hs⟩ ht).2,
    fun s t hs ht => (creditsBounded_law.kept.step ⟨trivial, hs⟩ ht).2, fun s t hs ht => ?_⟩
  obtain ⟨he, hhlim, hgen, hocc⟩ := hs
  obtain ⟨⟨he', hhlim'⟩, hocc'⟩ := occupantsInRange_law.kept.step ⟨⟨he, hhlim⟩, hocc⟩ ht
  exact ⟨he', hhlim', (generations_law.kept.step ⟨trivial, hgen⟩ ht).2, hocc'⟩

end Sys2Proof.Machine
end

section
/-! Proofs that every step keeps the laws of the bindings, and of the handle maps and service rings. -/

namespace Sys2Proof.Machine

open Sys2Proof.Safety

/-! ### The states of the sectors -/

/-- N and the state of every sector are those of `s`. -/
def SameStates (s t : State) : Prop := t.policy.n = s.policy.n ∧ ∀ k, (t.sector k).state = (s.sector k).state

theorem SameStates.of_sectors {s t : State} (hp : t.policy = s.policy) (hv : t.sectors = s.sectors) : SameStates s t :=
  ⟨by rw [hp], fun k => by rw [sector_congr hv]⟩

/-- The state of a sector when another sector is written, or this one with its state kept. -/
theorem state_setSector (s : State) {k : SectorId} {v : Sector} (h : v.state = (s.sector k).state) (j : SectorId) :
    ((s.setSector k v).sector j).state = (s.sector j).state := by
  by_cases hj : j = k
  · subst hj; rw [sector_setSector_same, h]
  · rw [sector_setSector_other _ _ hj]

theorem sector_commitHeads (s : State) (w : Work) (k : SectorId) :
    (s.commitHeads w).sector k =
      { s.sector k with
        dlHead := committedHead s (s.sector k).ring (s.sector k).dlHead (w.dl.heads.get k)
        ulHead := committedHead s (s.sector k).ring (s.sector k).ulHead (w.ul.heads.get k) } := by
  rw [State.commitHeads, State.sector, PerSector.get_of]

theorem sameStates_commitHeads (s : State) (w : Work) : SameStates s (s.commitHeads w) :=
  ⟨rfl, fun k => by rw [sector_commitHeads]⟩

theorem sameStates_removed (s : State) (i : RecIdx) : SameStates s (s.removed i) :=
  ⟨by rw [removed_frame], fun k => by rw [removed_sectorState, sector_congr (cancelMoveOf_sectors s i)]⟩

theorem leave_state (v : Sector) (h : Nat) (i : RecIdx) : (v.leave h i).state = v.state := rfl

theorem join_state (v : Sector) (h : Nat) (i : RecIdx) (g : Nat) : (v.join h i g).state = v.state := rfl

theorem sameStates_attachTaken (s : State) (k : SectorId) (h : Nat) (i : RecIdx) (o : Occupant) :
    SameStates s (attachTaken s k h i o).state :=
  ⟨rfl, fun j => state_setSector s (join_state _ h i (s.record i).generation) j⟩

theorem sameStates_detachTaken (s : State) (k : SectorId) (h : Nat) (i : RecIdx) (o : Occupant) :
    SameStates s (detachTaken s k h i o).state :=
  ⟨by rw [detachTaken_frame], fun j => by rw [detachTaken_sectorState, sector_congr (cancelMoveOf_sectors s i)]⟩

/-- The sectors after a claim: the record leaves the one and joins the other. -/
theorem sector_rehomed (s : State) (k t : SectorId) (oldHandle newHandle : Nat) (i : RecIdx) (o : Occupant) (j : SectorId) :
    (s.rehomed k t oldHandle newHandle i o).sector j =
      let left := s.setSector k ((s.sector k).leave oldHandle i)
      (left.setSector t ((left.sector t).join newHandle i (s.record i).generation)).sector j := rfl

theorem sameStates_claimTaken (s : State) (k t : SectorId) (h h' : Nat) (i : RecIdx) (o : Occupant) :
    SameStates s (claimTaken s k t h h' i o).state := by
  refine ⟨by rw [claimTaken_frame], fun j => ?_⟩
  rw [sector_congr (claimTaken_sectors s k t h h' i o), sector_rehomed]
  exact (state_setSector _ (join_state _ h' i (s.record i).generation) j).trans (state_setSector s (leave_state _ h i) j)

theorem sameStates_flagged (s : State) (k : SectorId) : SameStates s (s.flagged k) :=
  ⟨rfl, state_setSector s (v := { s.sector k with batchSeen := true }) rfl⟩

/-- A property of N and the states of the sectors, under another law, kept where those change. -/
theorem Law.of_states {R P : State → Prop} (hR : Law R) (hsame : ∀ {s t : State}, SameStates s t → P s → P t)
    (hpresence : ∀ s k, R s → P s → P (s.evaluatePresence k))
    (hreset : ∀ selected powerLow q, P (resetWith selected powerLow q))
    (hitems : ∀ s items, firstRefused s 0 items = none → R s → P s → P (applyItems s items).state)
    (hrestart : ∀ s, P s → P s.restart)
    (hbind : ∀ s k l, (s.sector k).state = .unbound → s.boundSector l = none → P s → P (s.bindTo k l))
    (hrelease : ∀ s k j, (s.sector k).state.link? = some j → P s → P (s.releaseBinding k)) : Law fun s => R s ∧ P s where
  background h hs := ⟨hR.background h hs.1, hsame ⟨by rw [h.1], fun k => by rw [sector_congr h.2.2.1]⟩ hs.2⟩
  window s hs := ⟨hR.window s hs.1, hsame (s := s) ⟨rfl, fun _ => rfl⟩ hs.2⟩
  presence s k hs := ⟨hR.presence s k hs.1, hpresence s k hs.1 hs.2⟩
  ages s hs := ⟨hR.ages s hs.1, hsame (.of_sectors (raiseAges_policy s) (raiseAges_sectors s)) hs.2⟩
  credits s snap w hs := ⟨hR.credits s snap w hs.1,
    hsame (.of_sectors (commitCredits_policy s snap w) (commitCredits_sectors s snap w)) hs.2⟩
  heads s w hs := ⟨hR.heads s w hs.1, hsame (sameStates_commitHeads s w) hs.2⟩
  countdown s hs := ⟨hR.countdown s hs.1, hsame (.of_sectors (countdown_policy s) (countdown_sectors s)) hs.2⟩
  reset selected powerLow q := ⟨hR.reset selected powerLow q, hreset selected powerLow q⟩
  items s items hi hs := ⟨hR.items s items hi hs.1, hitems s items hi hs.1 hs.2⟩
  rights s j r hr hs := ⟨hR.rights s j r hr hs.1, hsame (s := s) ⟨rfl, fun _ => rfl⟩ hs.2⟩
  restart s hs := ⟨hR.restart s hs.1, hrestart s hs.2⟩
  admitted s i id w rd ru cap hi h0 hid hun hs :=
    ⟨hR.admitted s i id w rd ru cap hi h0 hid hun hs.1, hsame (s := s) (.of_sectors rfl rfl) hs.2⟩
  terms s i o w rd ru cap ho hs := ⟨hR.terms s i o w rd ru cap ho hs.1, hsame (s := s) (.of_sectors rfl rfl) hs.2⟩
  suspended s i o b ho hs := ⟨hR.suspended s i o b ho hs.1, hsame (s := s) (.of_sectors rfl rfl) hs.2⟩
  removed s i o ho hs := ⟨hR.removed s i o ho hs.1, hsame (sameStates_removed s i) hs.2⟩
  bind s k l hk hl hs := ⟨hR.bind s k l hk hl hs.1, hbind s k l hk hl hs.2⟩
  release s k j hj hs := ⟨hR.release s k j hj hs.1, hrelease s k j hj hs.2⟩
  attach s k h i o hh ho ha hfree hb hs :=
    ⟨hR.attach s k h i o hh ho ha hfree hb hs.1, hsame (sameStates_attachTaken s k h i o) hs.2⟩
  detach s k h i o hl hs := ⟨hR.detach s k h i o hl hs.1, hsame (sameStates_detachTaken s k h i o) hs.2⟩
  flagged s k hs := ⟨hR.flagged s k hs.1, hsame (sameStates_flagged s k) hs.2⟩
  reported s k entries u hfit hu hs :=
    ⟨hR.reported s k entries u hfit hu hs.1, hsame (.of_sectors hu.policy hu.sectors) hs.2⟩
  move s k t h i o hl hm ht hq hs := ⟨hR.move s k t h i o hl hm ht hq hs.1,
    hsame (s := s) (.of_sectors (by rw [moveTaken_frame]) (by rw [moveTaken_frame])) hs.2⟩
  readNotice s k n rest hq hs := ⟨hR.readNotice s k n rest hq hs.1,
    hsame (.of_sectors (setQueue_policy s k rest) (setQueue_sectors s k rest)) hs.2⟩
  claim s k t h h' n i o hh ho ha hfree hb hs := ⟨hR.claim s k t h h' n i o hh ho ha hfree hb hs.1,
    hsame (sameStates_claimTaken s k t h h' i o) hs.2⟩
  cancelMove s i o k t h n ho ha hs := ⟨hR.cancelMove s i o k t h n ho ha hs.1,
    hsame (.of_sectors (cancelMoveOf_policy s i) (cancelMoveOf_sectors s i)) hs.2⟩

/-! ### The operations that change the state of a sector -/

/-- No presence evaluation disables or enables a sector. -/
theorem disabled_evaluated (m : Nat) (v : Sector) : (v.evaluated m).state = .disabled ↔ v.state = .disabled := by
  rcases Option.eq_none_or_eq_some v.state.link? with h | ⟨l, h⟩
  · rw [evaluated_of_noLink m h]
  · have h' := (link_evaluated m v).trans h
    constructor <;> intro hd
    · rw [hd] at h'; cases h'
    · rw [hd] at h; cases h

theorem link_restart (m : Nat) (v : Sector) : (v.restart m).state.link? = v.state.link? := by
  rcases Option.eq_none_or_eq_some v.state.link? with h | ⟨l, h⟩
  · rw [Sector.restart_of_noLink m h]
  · rw [Sector.restart_of_link m h, h]; rfl

/-- No restart disables or enables a sector. -/
theorem disabled_restart (m : Nat) (v : Sector) : (v.restart m).state = .disabled ↔ v.state = .disabled := by
  rcases Option.eq_none_or_eq_some v.state.link? with h | ⟨l, h⟩
  · rw [Sector.restart_of_noLink m h]
  · rw [Sector.restart_of_link m h]
    constructor <;> intro hd
    · cases hd
    · rw [hd] at h; cases h

theorem sector_bindTo (s : State) (k : SectorId) (l : Link) (j : SectorId) :
    (s.bindTo k l).sector j =
      if j = k then { s.sector k with state := .silent l, missed := s.policy.m, batchSeen := false } else s.sector j := by
  show (s.setSector k _).sector j = _
  by_cases hj : j = k
  · subst hj; rw [sector_setSector_same, if_pos rfl]
  · rw [sector_setSector_other _ _ hj, if_neg hj]

theorem sector_releaseBinding (s : State) (k j : SectorId) :
    (s.releaseBinding k).sector j =
      if j = k then { s.sector k with state := .unbound, batchSeen := false } else s.sector j := by
  obtain ⟨hsame, hother, -⟩ := released_releaseBinding s k
  by_cases hj : j = k
  · subst hj; rw [if_pos rfl, hsame]
  · rw [if_neg hj, hother j hj]

/-! ### DISABLED sectors and bindings (R13, R57) -/

theorem ne_disabled_of_link {st : SectorState} {l : Link} (h : st.link? = some l) : st ≠ .disabled := by
  rintro rfl
  cases h

theorem disabled_sectorForN (n : Nat) (k : SectorId) (v : Sector) :
    (sectorForN n k v).state = .disabled ↔ n ≤ sectorNo k := by
  unfold sectorForN
  split
  · next h => simp [h]
  · next h =>
    split
    · simpa using h
    · next hd => simp [hd, h]

/-- A binding in a sector that follows a new N was there before. -/
theorem link_of_sectorForN {n : Nat} {k : SectorId} {v : Sector} {l : Link}
    (h : (sectorForN n k v).state.link? = some l) : v.state.link? = some l := by
  unfold sectorForN at h
  split at h
  · cases h
  · split at h
    · cases h
    · exact h

/-- Items leave the sectors alone but for N. -/
theorem sector_applyItem (s : State) (item : PolicyItem) :
    (∃ v, item = .n v ∧ (applyItem s item).state = s.setN (clampTo 1 3 v)) ∨
    ((applyItem s item).state.sectors = s.sectors ∧ (applyItem s item).state.policy.n = s.policy.n ∧
      ∀ v, item ≠ .n v) := by
  cases item with
  | n v => exact .inl ⟨v, rfl, rfl⟩
  | _ => exact .inr ⟨rfl, rfl, fun _ h => by cases h⟩

theorem sectorsFollowN_applyItem {s : State} (item : PolicyItem) (hs : SectorsFollowN s) :
    SectorsFollowN (applyItem s item).state := by
  rcases sector_applyItem s item with ⟨v, -, h⟩ | ⟨hv, hn, -⟩
  · rw [h]
    intro k
    rw [sector_setN, setN_policy, disabled_sectorForN]
  · intro k
    rw [sector_congr hv, hn, hs k]

theorem sectorsFollowN_law : Law fun s => True ∧ SectorsFollowN s := by
  refine .of_states trivial_law (fun {s t} ht hs k => ?same) (fun s k _ hs j => ?presence)
    (fun _ _ _ k => ?reset) (fun s items hi _ hs => applyItems_keeps (fun _ item _ => sectorsFollowN_applyItem item) hi hs)
    (fun s hs k => ?restart) (fun s k l hk _ hs j => ?bind) fun s k l hk hs j => ?release
  case same => rw [ht.1, ht.2 k, hs k]
  case presence =>
    rw [sector_evaluatePresence, evaluatePresence_policy, ← hs j]
    split
    · exact disabled_evaluated _ _
    · exact Iff.rfl
  case reset =>
    rw [sector_resetWith]
    show Sector.reset.state = .disabled ↔ Policy.reset.n ≤ sectorNo k
    cases k <;> decide
  case restart => rw [sector_restart, disabled_restart, hs k, restart_policy]
  case bind =>
    rw [sector_bindTo, show (s.bindTo k l).policy = s.policy from rfl, ← hs j]
    split
    · next h =>
      subst h
      simp [hk]
    · exact Iff.rfl
  case release =>
    rw [sector_releaseBinding, releaseBinding_policy, ← hs j]
    split
    · next h =>
      subst h
      simp [ne_disabled_of_link hk]
    · exact Iff.rfl

/-- Fewer bindings are unique when more were. -/
theorem BindingsUnique.mono {s t : State} (hs : BindingsUnique s)
    (h : ∀ k l, (t.sector k).state.link? = some l → (s.sector k).state.link? = some l) : BindingsUnique t :=
  fun k k' l hk hk' => hs k k' l (h k l hk) (h k' l hk')

theorem bindingsUnique_applyItem {s : State} (item : PolicyItem) (hs : BindingsUnique s) :
    BindingsUnique (applyItem s item).state := by
  refine BindingsUnique.mono hs fun k l hk => ?_
  rcases sector_applyItem s item with ⟨v, -, h⟩ | ⟨hv, -⟩
  · rw [h, sector_setN] at hk
    exact link_of_sectorForN hk
  · rwa [sector_congr hv] at hk

/-- No sector is bound to a link without a bound sector. -/
theorem link_ne_of_boundSector {s : State} {l : Link} (h : s.boundSector l = none) (k : SectorId) :
    (s.sector k).state.link? ≠ some l := by
  have := List.find?_eq_none.1 h k (by cases k <;> decide)
  simpa using this

theorem bindingsUnique_bindTo {s : State} {k : SectorId} {l : Link} (hl : s.boundSector l = none)
    (hs : BindingsUnique s) : BindingsUnique (s.bindTo k l) := by
  have hbound : ∀ j l', ((s.bindTo k l).sector j).state.link? = some l' →
      (j = k ∧ l' = l) ∨ (j ≠ k ∧ (s.sector j).state.link? = some l') := by
    intro j l' hj
    rw [sector_bindTo] at hj
    split at hj
    · next h => cases hj; exact .inl ⟨h, rfl⟩
    · next h => exact .inr ⟨h, hj⟩
  intro j j' l' hj hj'
  rcases hbound j l' hj with ⟨hjk, hl'⟩ | ⟨-, hsj⟩ <;> rcases hbound j' l' hj' with ⟨hjk', hl''⟩ | ⟨-, hsj'⟩
  · rw [hjk, hjk']
  · exact absurd (hl' ▸ hsj') (link_ne_of_boundSector hl j')
  · exact absurd (hl'' ▸ hsj) (link_ne_of_boundSector hl j)
  · exact hs j j' l' hsj hsj'

theorem bindingsUnique_law {R : State → Prop} (hR : Law R) : Law fun s => R s ∧ BindingsUnique s := by
  refine .of_states hR (fun {s t} ht hs => BindingsUnique.mono hs fun k l hk => ?same)
    (fun s k _ hs => BindingsUnique.mono hs fun j l hj => ?presence) (fun _ _ _ k _ l hk => ?reset)
    (fun s items hi _ hs => applyItems_keeps (fun _ item _ => bindingsUnique_applyItem item) hi hs)
    (fun s hs => BindingsUnique.mono hs fun k l hk => ?restart) (fun s k l _ hl hs => bindingsUnique_bindTo hl hs)
    fun s k _ _ hs => BindingsUnique.mono hs fun j l hj => ?release
  case same => rwa [ht.2 k] at hk
  case presence =>
    rw [sector_evaluatePresence] at hj
    split at hj
    · rwa [link_evaluated] at hj
    · exact hj
  case reset =>
    rw [sector_resetWith] at hk
    cases hk
  case restart => rwa [sector_restart, link_restart] at hk
  case release =>
    rw [sector_releaseBinding] at hj
    split at hj
    · cases hj
    · exact hj

/-- Settles O58: N is the only item that disables or enables a sector, and BIND SECTOR binds a link without a sector. -/
theorem bindingLawsKept : Obligations.BindingLawsKept :=
  ⟨fun _ _ hs ht => ((bindingsUnique_law trivial_law).kept.step ⟨trivial, hs⟩ ht).2,
    fun _ _ hs ht => (sectorsFollowN_law.kept.step ⟨trivial, hs⟩ ht).2⟩

end Sys2Proof.Machine
end

section
/-! Proofs that every step keeps the handle maps, the service rings and the records in agreement. -/

namespace Sys2Proof.Machine

open Sys2Proof.Safety

/-! ### The places of the records and the sectors -/

/-- The home sector and handle of a record, if it has them. -/
def State.placeOf (s : State) (i : RecIdx) : Option (SectorId × Nat) := (s.occupant i).bind fun o => o.attachment.place?

/-- The generation of a record. -/
def State.generationOf (s : State) (i : RecIdx) : Nat := (s.record i).generation

/-- The map, the ring and the heads of sector `k` agree with the places and the generations of the records (R61, R66). -/
structure Agrees (place : RecIdx → Option (SectorId × Nat)) (gen : RecIdx → Nat) (k : SectorId) (v : Sector) : Prop where
  entry : ∀ e ∈ v.map, place e.index = some (k, e.handle) ∧ gen e.index = e.generation ∧ 1 ≤ e.handle ∧ e.handle ≤ 127
  mapped : ∀ i h, place i = some (k, h) → ∃ e ∈ v.map, e.index = i ∧ e.handle = h
  handles : (v.map.map MapEntry.handle).Nodup
  ringNodup : v.ring.Nodup
  ring : ∀ i, i ∈ v.ring ↔ ∃ h, place i = some (k, h)
  heads : ∀ dir, (v.head dir = none ↔ v.ring = []) ∧ ∀ i ∈ v.head dir, i ∈ v.ring

/-- Every sector agrees with the places and the generations, and a DISABLED sector has no entry (R13). -/
def PlacesAgree (place : RecIdx → Option (SectorId × Nat)) (gen : RecIdx → Nat) (sectors : SectorId → Sector) : Prop :=
  ∀ k, ((sectors k).state = .disabled → (sectors k).map = []) ∧ Agrees place gen k (sectors k)

/-- The places of the records of `s` agree with its sectors. -/
def State.inAgreement (s : State) : Prop := PlacesAgree s.placeOf s.generationOf s.sector

theorem placeOf_eq_some {s : State} {i : RecIdx} {p : SectorId × Nat} :
    s.placeOf i = some p ↔ ∃ o, s.occupant i = some o ∧ o.attachment.place? = some p := by
  unfold State.placeOf
  rw [Option.bind_eq_some_iff]

/-- The two readings of R61 and R66 are one. -/
theorem agrees_iff (s : State) (k : SectorId) :
    Agrees s.placeOf s.generationOf k (s.sector k) ↔ MapAgrees s k ∧ RingAgrees s k := by
  constructor
  · intro h
    refine ⟨⟨fun e he => ?_, fun i o n ho hn => h.mapped i n (placeOf_eq_some.2 ⟨o, ho, hn⟩), h.handles⟩, h.ringNodup,
      fun i => ?_, h.heads⟩
    · obtain ⟨hp, hg, hr⟩ := h.entry e he
      obtain ⟨o, ho, hp⟩ := placeOf_eq_some.1 hp
      exact ⟨o, ho, hp, hg, hr⟩
    · rw [h.ring i]
      constructor
      · rintro ⟨n, hn⟩
        obtain ⟨e, he, hi, -⟩ := h.mapped i n hn
        exact ⟨e, he, hi⟩
      · rintro ⟨e, he, rfl⟩
        exact ⟨e.handle, (h.entry e he).1⟩
  · rintro ⟨⟨hentry, hmapped, hhandles⟩, hnodup, hring, hheads⟩
    have hplace : ∀ e ∈ (s.sector k).map, s.placeOf e.index = some (k, e.handle) ∧
        s.generationOf e.index = e.generation ∧ 1 ≤ e.handle ∧ e.handle ≤ 127 := by
      intro e he
      obtain ⟨o, ho, hp, hg, hr⟩ := hentry e he
      exact ⟨placeOf_eq_some.2 ⟨o, ho, hp⟩, hg, hr⟩
    have hmap : ∀ i h, s.placeOf i = some (k, h) → ∃ e ∈ (s.sector k).map, e.index = i ∧ e.handle = h := by
      intro i h hp
      obtain ⟨o, ho, hp⟩ := placeOf_eq_some.1 hp
      exact hmapped i o h ho hp
    refine ⟨hplace, hmap, hhandles, hnodup, fun i => ?_, hheads⟩
    rw [hring i]
    constructor
    · rintro ⟨e, he, rfl⟩
      exact ⟨e.handle, (hplace e he).1⟩
    · rintro ⟨n, hn⟩
      obtain ⟨e, he, hi, -⟩ := hmap i n hn
      exact ⟨e, he, hi⟩

theorem mapsAndRingsAgree_iff (s : State) : MapsAndRingsAgree s ↔ SectorsFollowN s ∧ s.inAgreement := by
  unfold MapsAndRingsAgree State.inAgreement PlacesAgree
  simp only [agrees_iff, forall_and]

/-! ### A record leaves a sector, a record joins one -/

section Agrees

variable {place : RecIdx → Option (SectorId × Nat)} {gen : RecIdx → Nat} {k : SectorId} {v : Sector}

/-- A sector without entries has an empty ring and no heads. -/
theorem Agrees.empty (h : Agrees place gen k v) (hmap : v.map = []) :
    (∀ i n, place i ≠ some (k, n)) ∧ v.ring = [] ∧ v.dlHead = none ∧ v.ulHead = none := by
  have hplace : ∀ i n, place i ≠ some (k, n) := by
    intro i n hp
    obtain ⟨e, he, -⟩ := h.mapped i n hp
    rw [hmap] at he
    cases he
  have hring : v.ring = [] := by
    rw [List.eq_nil_iff_forall_not_mem]
    intro i hi
    obtain ⟨n, hn⟩ := (h.ring i).1 hi
    exact hplace i n hn
  exact ⟨hplace, hring, ((h.heads .dl).1).2 hring, ((h.heads .ul).1).2 hring⟩

/-- A sector that is the home of no record has no entry. -/
theorem Agrees.map_eq_nil (h : Agrees place gen k v) (hplace : ∀ i n, place i ≠ some (k, n)) : v.map = [] := by
  rw [List.eq_nil_iff_forall_not_mem]
  exact fun e he => hplace _ _ (h.entry e he).1

/-- Agreement is about the places in the sector, the generations there, the map, the ring and the heads. -/
theorem Agrees.congr {place' : RecIdx → Option (SectorId × Nat)} {gen' : RecIdx → Nat} {v' : Sector}
    (h : Agrees place gen k v) (hplace : ∀ i n, place' i = some (k, n) ↔ place i = some (k, n))
    (hgen : ∀ i n, place i = some (k, n) → gen' i = gen i) (hmap : v'.map = v.map) (hring : v'.ring = v.ring)
    (hhead : ∀ dir, v'.head dir = v.head dir) : Agrees place' gen' k v' where
  entry e he := by
    rw [hmap] at he
    obtain ⟨hp, hg, hr⟩ := h.entry e he
    exact ⟨(hplace _ _).2 hp, (hgen _ _ hp).trans hg, hr⟩
  mapped i n hp := by rw [hmap]; exact h.mapped i n ((hplace i n).1 hp)
  handles := by rw [hmap]; exact h.handles
  ringNodup := by rw [hring]; exact h.ringNodup
  ring i := by rw [hring, h.ring i]; simp only [hplace]
  heads dir := by rw [hring, hhead]; exact h.heads dir

/-- Another record's place does not matter to a sector it neither leaves nor joins. -/
theorem Agrees.update_other {i : RecIdx} {p : Option (SectorId × Nat)} (h : Agrees place gen k v)
    (hi : ∀ n, place i ≠ some (k, n)) (hp : ∀ n, p ≠ some (k, n)) : Agrees (Function.update place i p) gen k v := by
  refine h.congr (fun j n => ?_) (fun _ _ _ => rfl) rfl rfl fun _ => rfl
  by_cases hj : j = i
  · subst hj
    simp [hi, hp]
  · rw [Function.update_of_ne hj]

/-- A record leaves its home: its entry, its place in the ring and a head on it go together (R61, R68). -/
theorem Agrees.leave {i : RecIdx} {n : Nat} (h : Agrees place gen k v) (hi : place i = some (k, n)) :
    Agrees (Function.update place i none) gen k (v.leave n i) := by
  obtain ⟨a, b, hring⟩ := List.append_of_mem ((h.ring i).2 ⟨n, hi⟩)
  have hnodup := h.ringNodup
  rw [hring] at hnodup
  obtain ⟨ha, hb, hab⟩ : i ∉ a ∧ i ∉ b ∧ (a ++ b).Nodup := by
    have := (List.nodup_middle.1 hnodup)
    rw [List.nodup_cons, List.mem_append] at this
    tauto
  have hring' := ring_leave n hring ha
  have hplace : ∀ j m, Function.update place i none j = some (k, m) ↔ j ≠ i ∧ place j = some (k, m) := by
    intro j m
    by_cases hj : j = i
    · subst hj; simp
    · rw [Function.update_of_ne hj]; simp [hj]
  have hindex : ∀ e ∈ v.map, e.index = i ↔ e.handle = n := by
    intro e he
    have hp := (h.entry e he).1
    constructor
    · rintro rfl
      rw [hp] at hi
      cases hi
      rfl
    · intro hn
      obtain ⟨f, hf, hfi, hfn⟩ := h.mapped i n hi
      rw [List.inj_on_of_nodup_map h.handles he hf (hn.trans hfn.symm), hfi]
  refine ⟨fun e he => ?_, fun j m hj => ?_, ?_, by rw [hring']; exact hab, fun j => ?_, fun dir => ?_⟩
  · obtain ⟨he, hne⟩ := mem_mapErase.1 he
    obtain ⟨hp, hg, hr⟩ := h.entry e he
    exact ⟨(hplace _ _).2 ⟨fun hei => hne ((hindex e he).1 hei), hp⟩, hg, hr⟩
  · obtain ⟨hji, hj⟩ := (hplace j m).1 hj
    obtain ⟨e, he, rfl, hm⟩ := h.mapped j m hj
    exact ⟨e, mem_mapErase.2 ⟨he, fun hn => hji ((hindex e he).2 hn)⟩, rfl, hm⟩
  · exact (List.filter_sublist.map _).nodup h.handles
  · have hj := h.ring j
    rw [hring, List.mem_append, List.mem_cons] at hj
    rw [hring', List.mem_append]
    simp only [hplace, exists_and_left, ← hj]
    constructor
    · rintro (h' | h')
      · exact ⟨fun hji => ha (hji ▸ h'), .inl h'⟩
      · exact ⟨fun hji => hb (hji ▸ h'), .inr (.inr h')⟩
    · tauto
  · obtain ⟨hnone, hmem⟩ := h.heads dir
    rw [head_leave n hring ha hb, hring']
    split
    · refine ⟨?_, fun j hj => ?_⟩
      · rw [List.head?_eq_none_iff, List.append_eq_nil_iff, List.append_eq_nil_iff]
        tauto
      · have := List.mem_of_head? hj
        rw [List.mem_append] at this ⊢
        tauto
    · next hne =>
      have hsome : v.head dir ≠ none := fun h' => by
        rw [hring] at hnone
        simpa using hnone.1 h'
      obtain ⟨j, hj⟩ := Option.ne_none_iff_exists'.1 hsome
      have hjr := hmem j hj
      rw [hring, List.mem_append, List.mem_cons] at hjr
      have hji : j ≠ i := fun h' => hne (h' ▸ hj)
      have hjab : j ∈ a ++ b := by rw [List.mem_append]; tauto
      rw [hj]
      exact ⟨by simpa using List.ne_nil_of_mem hjab, fun j' hj' => by cases hj'; exact hjab⟩

theorem head_join (v : Sector) (n : Nat) (i : RecIdx) (g : Nat) (dir : Dir) :
    (v.join n i g).head dir = if v.ring = [] then some i else v.head dir := by
  cases dir <;> rfl

/-- A record without a home joins a sector under a handle that is not in use (R61, R67). -/
theorem Agrees.join {i : RecIdx} {n : Nat} (h : Agrees place gen k v) (hi : place i = none) (hn : 1 ≤ n ∧ n ≤ 127)
    (hfree : ∀ e ∈ v.map, e.handle ≠ n) :
    Agrees (Function.update place i (some (k, n))) gen k (v.join n i (gen i)) := by
  have hout : i ∉ v.ring := fun hr => by
    obtain ⟨m, hm⟩ := (h.ring i).1 hr
    rw [hi] at hm
    cases hm
  have hplace : ∀ j m, Function.update place i (some (k, n)) j = some (k, m) ↔
      (j = i ∧ m = n) ∨ place j = some (k, m) := by
    intro j m
    by_cases hj : j = i
    · subst hj; simp [hi, eq_comm]
    · rw [Function.update_of_ne hj]; simp [hj]
  refine ⟨fun e he => ?_, fun j m hj => ?_, ?_, ?_, fun j => ?_, fun dir => ?_⟩
  · rcases mem_mapInsert.1 he with rfl | he
    · exact ⟨(hplace _ _).2 (.inl ⟨rfl, rfl⟩), rfl, hn⟩
    · obtain ⟨hp, hr⟩ := h.entry e he
      exact ⟨(hplace _ _).2 (.inr hp), hr⟩
  · rcases (hplace j m).1 hj with ⟨rfl, rfl⟩ | hj
    · exact ⟨_, mem_mapInsert.2 (.inl rfl), rfl, rfl⟩
    · obtain ⟨e, he, h'⟩ := h.mapped j m hj
      exact ⟨e, mem_mapInsert.2 (.inr he), h'⟩
  · refine (mapInsert_handles_perm _ v.map).nodup_iff.2 (List.nodup_cons.2 ⟨fun hm => ?_, h.handles⟩)
    obtain ⟨e, he, hen⟩ := List.mem_map.1 hm
    exact hfree e he hen
  · exact List.nodup_append.2 ⟨h.ringNodup, List.nodup_singleton i, fun a ha b hb => by
      rw [List.mem_singleton.1 hb]; exact fun hab => hout (hab ▸ ha)⟩
  · show j ∈ v.ring ++ [i] ↔ _
    rw [List.mem_append, List.mem_singleton, h.ring j]
    simp only [hplace, exists_or, exists_and_left, exists_eq, and_true]
    exact or_comm
  · obtain ⟨hnone, hmem⟩ := h.heads dir
    show ((v.join n i (gen i)).head dir = none ↔ v.ring ++ [i] = []) ∧
      ∀ j ∈ (v.join n i (gen i)).head dir, j ∈ v.ring ++ [i]
    rw [head_join]
    split
    · exact ⟨by simp, fun j hj => by cases hj; simp⟩
    · next hr => exact ⟨by simp [hnone, hr], fun j hj => List.mem_append_left _ (hmem j hj)⟩

end Agrees

section PlacesAgree

variable {place : RecIdx → Option (SectorId × Nat)} {gen : RecIdx → Nat} {sectors : SectorId → Sector}

theorem PlacesAgree.leave {i : RecIdx} {k : SectorId} {n : Nat} (h : PlacesAgree place gen sectors)
    (hi : place i = some (k, n)) :
    PlacesAgree (Function.update place i none) gen (Function.update sectors k ((sectors k).leave n i)) := by
  intro j
  obtain ⟨hd, ha⟩ := h j
  by_cases hj : j = k
  · subst hj
    rw [Function.update_self]
    refine ⟨fun hdis => ?_, ha.leave hi⟩
    show mapErase n (sectors j).map = []
    rw [hd hdis]
    rfl
  · rw [Function.update_of_ne hj]
    exact ⟨hd, ha.update_other (fun m hm => hj (by rw [hi] at hm; cases hm; rfl)) fun _ => by simp⟩

theorem PlacesAgree.join {i : RecIdx} {k : SectorId} {n : Nat} (h : PlacesAgree place gen sectors)
    (hi : place i = none) (hn : 1 ≤ n ∧ n ≤ 127) (hfree : ∀ e ∈ (sectors k).map, e.handle ≠ n)
    (hk : (sectors k).state ≠ .disabled) :
    PlacesAgree (Function.update place i (some (k, n))) gen
      (Function.update sectors k ((sectors k).join n i (gen i))) := by
  intro j
  obtain ⟨hd, ha⟩ := h j
  by_cases hj : j = k
  · subst hj
    rw [Function.update_self]
    exact ⟨fun hdis => absurd hdis hk, ha.join hi hn hfree⟩
  · rw [Function.update_of_ne hj]
    exact ⟨hd, ha.update_other (fun m hm => by rw [hi] at hm; cases hm) fun m hm => hj (by cases hm; rfl)⟩

end PlacesAgree

end Sys2Proof.Machine
end

section
/-! The law of the handle maps and service rings: which operations leave the places, the maps and the rings alone, and what
the others do to them. -/

namespace Sys2Proof.Machine

open Sys2Proof.Safety

/-! ### Operations that leave the places of the records alone -/

/-- Every record has its place, and the records that have one their generation. -/
structure SameRecords (s t : State) : Prop where
  place : ∀ i, t.placeOf i = s.placeOf i
  generation : ∀ i p, s.placeOf i = some p → t.generationOf i = s.generationOf i

theorem SameRecords.of_table {s t : State} (h : t.table = s.table) : SameRecords s t :=
  ⟨fun i => by rw [State.placeOf, occupant_congr h, State.placeOf],
    fun i _ _ => by rw [State.generationOf, record_congr h, State.generationOf]⟩

/-- Each record in use is changed by a function that keeps its place. -/
theorem SameRecords.of_map {s t : State} {f : RecIdx → Occupant → Occupant}
    (hgen : ∀ i, (t.record i).generation = (s.record i).generation)
    (hocc : ∀ i, t.occupant i = (s.occupant i).map (f i))
    (hf : ∀ i o, (f i o).attachment.place? = o.attachment.place?) : SameRecords s t :=
  ⟨fun i => by
    rw [State.placeOf, hocc, State.placeOf]
    rcases Option.eq_none_or_eq_some (s.occupant i) with ho | ⟨o, ho⟩ <;> rw [ho]
    · rfl
    · exact hf i o, fun i _ _ => hgen i⟩

/-- The places after one record is written. -/
theorem placeOf_of_record {s t : State} {i : RecIdx} {o' : Option Occupant} (hi : t.occupant i = o')
    (hother : ∀ j, j ≠ i → t.record j = s.record j) :
    t.placeOf = Function.update s.placeOf i (o'.bind fun o => o.attachment.place?) := by
  funext j
  by_cases hj : j = i
  · subst hj; rw [Function.update_self, State.placeOf, hi]
  · rw [Function.update_of_ne hj, State.placeOf, State.occupant, hother j hj]; rfl

/-- One record in use is written, its place and its generation kept. -/
theorem SameRecords.of_record {s t : State} {i : RecIdx} {o o' : Occupant} (ho : s.occupant i = some o)
    (hi : t.record i = { generation := (s.record i).generation, occupant := some o' })
    (hother : ∀ j, j ≠ i → t.record j = s.record j) (hp : o'.attachment.place? = o.attachment.place?) :
    SameRecords s t := by
  refine ⟨fun j => ?_, fun j _ _ => ?_⟩
  · rw [placeOf_of_record (o' := some o') (by rw [State.occupant, hi]) hother]
    by_cases hj : j = i
    · subst hj; rw [Function.update_self, State.placeOf, ho]; exact hp
    · rw [Function.update_of_ne hj]
  · by_cases hj : j = i
    · subst hj; rw [State.generationOf, hi, State.generationOf]
    · rw [State.generationOf, hother j hj, State.generationOf]

theorem sameRecords_setOccupant {s : State} {i : RecIdx} {o : Occupant} (ho : s.occupant i = some o) (o' : Occupant)
    (hp : o'.attachment.place? = o.attachment.place?) : SameRecords s (s.setOccupant i (some o')) :=
  .of_record ho (record_setRecord_same s i _) (fun _ hj => record_setRecord_other s _ hj) hp

theorem place_settleIf (f : SectorId → Bool) (o : Occupant) : (o.settleIf f).attachment.place? = o.attachment.place? := by
  unfold Occupant.settleIf Attachment.settleIf
  split
  · next h => rw [h]
  · next h => rw [h]
  · next h =>
    rw [h]
    split <;> rfl

theorem place_countdown (o : Occupant) : o.countdown.attachment.place? = o.attachment.place? := by
  unfold Occupant.countdown
  split
  · rfl
  · rfl
  · next h =>
    rw [h]
    split <;> rfl

theorem sameRecords_evaluatePresence (s : State) (k : SectorId) : SameRecords s (s.evaluatePresence k) :=
  .of_map (generation_evaluatePresence s k) (occupant_evaluatePresence s k) fun _ o => place_settleIf _ o

theorem sameRecords_raiseAges (s : State) : SameRecords s s.raiseAges :=
  .of_map (fun i => by rw [State.raiseAges, record_mapOccupants]) (fun i => by rw [State.raiseAges, occupant_mapOccupants])
    fun _ _ => by split <;> rfl

theorem sameRecords_commitCredits (s : State) (snap : Snapshot) (w : Work) : SameRecords s (s.commitCredits snap w) :=
  .of_map (fun i => by rw [State.commitCredits, record_mapOccupants])
    (fun i => by rw [State.commitCredits, occupant_mapOccupants]) fun _ _ => by
      split
      · split <;> rfl
      · rfl

theorem sameRecords_countdown (s : State) : SameRecords s s.countdown :=
  .of_map (f := fun _ => Occupant.countdown) (fun i => by rw [countdown_record])
    (fun i => by rw [State.occupant, countdown_record]) fun _ => place_countdown

theorem place_afterBatch (s : State) (k : SectorId) (entries : List ReportEntry) (i : RecIdx) (o : Occupant) :
    (s.afterBatch k entries i o).attachment.place? = o.attachment.place? := by
  unfold State.afterBatch
  split <;> rfl

theorem sameRecords_reported {s u : State} {k : SectorId} {entries : List ReportEntry} (hu : Reported s k entries u) :
    SameRecords s u := .of_map hu.generation hu.occupant (place_afterBatch s k entries)

theorem sameRecords_releaseBinding (s : State) (k : SectorId) : SameRecords s (s.releaseBinding k) :=
  .of_map (s := s) (fun i => (cancelMovesTo_generation s k i : _)) (fun i => cancelMovesTo_occupant s k i) fun _ o => by
    split
    · exact place_settled o.attachment
    · rfl

theorem sameRecords_cancelMoveOf (s : State) (i : RecIdx) : SameRecords s (s.cancelMoveOf i) := by
  refine .of_map (f := fun j o => if j = i then { o with attachment := o.attachment.settled } else o)
    (fun j => cancelMoveOf_generation s i j) (fun j => ?_) fun j o => ?_
  · rw [cancelMoveOf_occupant]
    split
    · next h => rw [h]
    · rcases Option.eq_none_or_eq_some (s.occupant j) with ho | ⟨o, ho⟩ <;> rw [ho] <;> rfl
  · split
    · exact place_settled o.attachment
    · rfl

/-- A new subscriber has no place, and its record had none. -/
theorem sameRecords_admitted {s : State} {i : RecIdx} (hi : s.occupant i = none) (g id : Nat) (v : Terms) :
    SameRecords s (s.setRecord i { generation := g, occupant := some (freshOccupant id v) }) := by
  have hnone : s.placeOf i = none := by rw [State.placeOf, hi]; rfl
  refine ⟨fun j => ?_, fun j p hp => ?_⟩
  · rw [placeOf_of_record (o' := some (freshOccupant id v)) (by rw [occupant_setRecord, if_pos rfl])
      fun _ hj => record_setRecord_other s _ hj]
    by_cases hj : j = i
    · subst hj; rw [Function.update_self, hnone]; rfl
    · rw [Function.update_of_ne hj]
  · have hj : j ≠ i := by
      rintro rfl
      rw [hnone] at hp
      cases hp
    rw [State.generationOf, record_setRecord_other s _ hj, State.generationOf]

/-! ### Operations that leave the maps and the rings alone -/

/-- Every sector has its map, its ring and its heads, and none is newly DISABLED. -/
def SameRings (s t : State) : Prop :=
  ∀ k, (t.sector k).map = (s.sector k).map ∧ (t.sector k).ring = (s.sector k).ring ∧
    (∀ dir, (t.sector k).head dir = (s.sector k).head dir) ∧
    ((t.sector k).state = .disabled → (s.sector k).state = .disabled)

theorem SameRings.of_sectors {s t : State} (h : t.sectors = s.sectors) : SameRings s t := fun k => by
  rw [sector_congr h]
  exact ⟨rfl, rfl, fun _ => rfl, id⟩

theorem SameRings.of_sector {s t : State} {k : SectorId} {v : Sector}
    (h : ∀ j, t.sector j = if j = k then v else s.sector j) (hmap : v.map = (s.sector k).map)
    (hring : v.ring = (s.sector k).ring) (hhead : ∀ dir, v.head dir = (s.sector k).head dir)
    (hd : v.state = .disabled → (s.sector k).state = .disabled) : SameRings s t := by
  intro j
  rw [h]
  split
  · next hj => subst hj; exact ⟨hmap, hring, hhead, hd⟩
  · exact ⟨rfl, rfl, fun _ => rfl, id⟩

theorem head_eq {v v' : Sector} (hd : v'.dlHead = v.dlHead) (hu : v'.ulHead = v.ulHead) (dir : Dir) :
    v'.head dir = v.head dir := by
  cases dir
  · exact hd
  · exact hu

theorem ring_evaluated (m : Nat) (v : Sector) :
    (v.evaluated m).map = v.map ∧ (v.evaluated m).ring = v.ring ∧ ∀ dir, (v.evaluated m).head dir = v.head dir := by
  rcases Option.eq_none_or_eq_some v.state.link? with h | ⟨l, h⟩
  · rw [evaluated_of_noLink m h]
    exact ⟨rfl, rfl, fun _ => rfl⟩
  · rw [evaluated_of_link m h]
    exact ⟨rfl, rfl, head_eq rfl rfl⟩

theorem sameRings_evaluatePresence (s : State) (k : SectorId) : SameRings s (s.evaluatePresence k) := by
  intro j
  rw [sector_evaluatePresence]
  split
  · obtain ⟨hm, hr, hh⟩ := ring_evaluated s.policy.m (s.sector j)
    exact ⟨hm, hr, hh, (disabled_evaluated _ _).1⟩
  · exact ⟨rfl, rfl, fun _ => rfl, id⟩

theorem sameRings_bindTo (s : State) (k : SectorId) (l : Link) : SameRings s (s.bindTo k l) :=
  .of_sector (sector_bindTo s k l) rfl rfl (head_eq rfl rfl) fun h => by cases h

theorem sameRings_releaseBinding (s : State) (k : SectorId) : SameRings s (s.releaseBinding k) :=
  .of_sector (sector_releaseBinding s k) rfl rfl (head_eq rfl rfl) fun h => by cases h

theorem sector_setSector (s : State) (k j : SectorId) (v : Sector) :
    (s.setSector k v).sector j = if j = k then v else s.sector j := by
  by_cases hj : j = k
  · subst hj; rw [sector_setSector_same, if_pos rfl]
  · rw [sector_setSector_other _ _ hj, if_neg hj]

theorem sameRings_flagged (s : State) (k : SectorId) : SameRings s (s.flagged k) :=
  .of_sector (fun j => sector_setSector s k j _) rfl rfl (head_eq rfl rfl) fun h => h

/-! ### Agreement is kept -/

theorem inAgreement_congr {s t : State} (hr : SameRecords s t) (hv : SameRings s t) (hs : s.inAgreement) :
    t.inAgreement := by
  intro k
  obtain ⟨hd, ha⟩ := hs k
  obtain ⟨hm, hring, hhead, hdis⟩ := hv k
  exact ⟨fun h => by rw [hm]; exact hd (hdis h),
    ha.congr (fun i n => by rw [hr.place]) (fun i n hp => hr.generation i _ hp) hm hring hhead⟩

/-- The sectors after one is replaced, as a family. -/
theorem sector_eq_update {s t : State} {k : SectorId} {v : Sector} (h : t.sectors = s.sectors.set k v) :
    t.sector = Function.update s.sector k v := by
  funext j
  rw [sector_congr (s := s.setSector k v) h, sector_setSector, Function.update_apply]

/-- The generations after one record is written and its generation kept. -/
theorem generationOf_of_record {s t : State} {i : RecIdx} (hi : (t.record i).generation = (s.record i).generation)
    (hother : ∀ j, j ≠ i → t.record j = s.record j) : t.generationOf = s.generationOf := by
  funext j
  by_cases hj : j = i
  · subst hj; exact hi
  · rw [State.generationOf, hother j hj, State.generationOf]

/-- A record loses its place and leaves its home with it. -/
theorem inAgreement_of_left {s t : State} {i : RecIdx} {o' : Option Occupant} {k : SectorId} {n : Nat}
    (hs : s.inAgreement) (hi : s.placeOf i = some (k, n)) (hv : t.sectors = s.sectors.set k ((s.sector k).leave n i))
    (ht : t.record i = { generation := (s.record i).generation, occupant := o' })
    (ho : (o'.bind fun o => o.attachment.place?) = none) (hother : ∀ j, j ≠ i → t.record j = s.record j) :
    t.inAgreement := by
  have h := PlacesAgree.leave hs hi
  rwa [← sector_eq_update hv, ← ho, ← placeOf_of_record (by rw [State.occupant, ht]) hother,
    ← generationOf_of_record (t := t) (by rw [ht]) hother] at h

theorem inAgreement_removed {s : State} {i : RecIdx} {o : Occupant} (ho : s.occupant i = some o) (hs : s.inAgreement) :
    (s.removed i).inAgreement := by
  rcases Option.eq_none_or_eq_some o.attachment.place? with hp | ⟨⟨k, n⟩, hp⟩
  · refine inAgreement_congr ⟨fun j => ?_, fun j _ _ => ?_⟩ (.of_sectors (removed_sectors_of_noPlace ho hp)) hs
    · rw [placeOf_of_record (o' := none) (by rw [State.occupant, record_removed_same])
        fun _ hj => record_removed_other s hj]
      by_cases hj : j = i
      · subst hj; rw [Function.update_self, State.placeOf, ho]; exact hp.symm
      · rw [Function.update_of_ne hj]
    · rw [generationOf_of_record (by rw [record_removed_same]) fun _ hj => record_removed_other s hj]
  · exact inAgreement_of_left hs (placeOf_eq_some.2 ⟨o, ho, hp⟩) (removed_sectors_of_place ho hp)
      (record_removed_same s i) rfl fun _ hj => record_removed_other s hj

/-- The place of the record that a handle names. -/
theorem place_of_lookup {s : State} {k : SectorId} {h : Nat} {i : RecIdx} {o : Occupant}
    (hl : s.lookup k h = some (i, o)) (hs : s.inAgreement) : s.placeOf i = some (k, h) := by
  obtain ⟨-, e, he, rfl, rfl⟩ := lookup_some hl
  exact ((hs k).2.entry e he).1

theorem inAgreement_detachTaken {s : State} {k : SectorId} {h : Nat} {i : RecIdx} {o : Occupant}
    (hl : s.lookup k h = some (i, o)) (hs : s.inAgreement) : (detachTaken s k h i o).state.inAgreement :=
  inAgreement_of_left hs (place_of_lookup hl hs) (detachTaken_sectors s k h i o) (record_detachTaken_same s k h i o) rfl
    fun _ hj => record_detachTaken_other s k h i o hj

/-- A handle that names no entry is free. -/
theorem handle_ne_of_handleEntry {s : State} {k : SectorId} {h : Nat} (hf : s.handleEntry k h = none) :
    ∀ e ∈ (s.sector k).map, e.handle ≠ h := by
  intro e he
  have := List.find?_eq_none.1 hf e he
  simpa using this

theorem inAgreement_attachTaken {s : State} {k : SectorId} {h : Nat} {i : RecIdx} {o : Occupant} (hh : 1 ≤ h ∧ h ≤ 127)
    (ho : s.occupant i = some o) (ha : o.attachment = .unbound) (hf : s.handleEntry k h = none)
    (hb : (s.sector k).state ≠ .disabled) (hs : s.inAgreement) : (attachTaken s k h i o).state.inAgreement := by
  have hi : s.placeOf i = none := by rw [State.placeOf, ho]; show o.attachment.place? = none; rw [ha]; rfl
  have hj := PlacesAgree.join hs hi hh (handle_ne_of_handleEntry hf) hb
  have hother : ∀ j, j ≠ i → (attachTaken s k h i o).state.record j = s.record j := fun j hj =>
    record_setOccupant_other _ _ hj
  have hocc : (attachTaken s k h i o).state.occupant i = some (o.attached k h) := occupant_setOccupant_same _ _ _
  have hgen : ((attachTaken s k h i o).state.record i).generation = (s.record i).generation :=
    generation_setOccupant _ i i _
  have hsec : (attachTaken s k h i o).state.sectors = s.sectors.set k ((s.sector k).join h i (s.record i).generation) := rfl
  unfold State.inAgreement
  rw [placeOf_of_record hocc hother, generationOf_of_record hgen hother, sector_eq_update hsec]
  exact hj

theorem inAgreement_claimTaken {s : State} {k t : SectorId} {h h' n : Nat} {i : RecIdx} {o : Occupant}
    (hh : 1 ≤ h' ∧ h' ≤ 127) (ho : s.occupant i = some o) (ha : o.attachment = .moving k h t n)
    (hf : s.handleEntry t h' = none) (ht : (s.sector t).state ≠ .disabled) (hs : s.inAgreement) :
    (claimTaken s k t h h' i o).state.inAgreement := by
  have hi : s.placeOf i = some (k, h) := placeOf_eq_some.2 ⟨o, ho, by rw [ha]; rfl⟩
  have hleft := PlacesAgree.leave hs hi
  have hstate : (Function.update s.sector k ((s.sector k).leave h i) t).state ≠ .disabled := by
    rw [Function.update_apply]
    split
    · next hk => subst hk; exact ht
    · exact ht
  have hfree : ∀ e ∈ (Function.update s.sector k ((s.sector k).leave h i) t).map, e.handle ≠ h' := by
    have hfree := handle_ne_of_handleEntry hf
    rw [Function.update_apply]
    split
    · next hk => subst hk; exact fun e he => hfree e (mem_mapErase.1 he).1
    · exact hfree
  have hj := PlacesAgree.join hleft (Function.update_self _ _ _) hh hfree hstate
  have hother : ∀ j, j ≠ i → (claimTaken s k t h h' i o).state.record j = s.record j := fun j hj =>
    record_claimTaken_other s k t h h' i o hj
  have hsame := record_claimTaken_same s k t h h' i o
  have hsec : (claimTaken s k t h h' i o).state.sector =
      Function.update (Function.update s.sector k ((s.sector k).leave h i)) t
        ((Function.update s.sector k ((s.sector k).leave h i) t).join h' i (s.record i).generation) := by
    have hset : (s.setSector k ((s.sector k).leave h i)).sector = Function.update s.sector k ((s.sector k).leave h i) :=
      sector_eq_update rfl
    funext j
    rw [sector_congr (claimTaken_sectors s k t h h' i o), sector_rehomed, sector_setSector, hset,
      Function.update_apply _ t]
  unfold State.inAgreement
  rw [placeOf_of_record (o' := some { o with attachment := .active t h' }) (by rw [State.occupant, hsame]) hother,
    generationOf_of_record (by rw [hsame]) hother, hsec]
  rw [Function.update_idem] at hj
  exact hj

theorem inAgreement_commitHeads {s : State} (w : Work) (hs : s.inAgreement) : (s.commitHeads w).inAgreement := by
  have hcommit : ∀ (k : SectorId) (dir : Dir) (x : Option WorkHead),
      (committedHead s (s.sector k).ring ((s.sector k).head dir) x = none ↔ (s.sector k).ring = []) ∧
      ∀ i ∈ committedHead s (s.sector k).ring ((s.sector k).head dir) x, i ∈ (s.sector k).ring := by
    intro k dir x
    have h := (hs k).2.heads dir
    unfold committedHead
    split
    · split
      · next hm =>
        exact ⟨⟨fun hn => (nomatch hn), fun hn => absurd (hn ▸ hm.1) List.not_mem_nil⟩, fun i hi => by cases hi; exact hm.1⟩
      · exact h
    · exact h
  intro k
  obtain ⟨hd, ha⟩ := hs k
  rw [sector_commitHeads]
  refine ⟨hd, ha.entry, ha.mapped, ha.handles, ha.ringNodup, ha.ring, fun dir => ?_⟩
  cases dir with
  | dl => exact hcommit k .dl _
  | ul => exact hcommit k .ul _

/-- Without subscribers and without entries all agree. -/
theorem inAgreement_of_empty {s : State} (hocc : ∀ i, s.occupant i = none)
    (hv : ∀ k, (s.sector k).map = [] ∧ (s.sector k).ring = [] ∧ (s.sector k).dlHead = none ∧ (s.sector k).ulHead = none) :
    s.inAgreement := by
  have hplace : ∀ i, s.placeOf i = none := fun i => by rw [State.placeOf, hocc]; rfl
  intro k
  obtain ⟨hm, hr, hd, hu⟩ := hv k
  refine ⟨fun _ => hm, fun e he => ?_, fun i n hp => ?_, ?_, ?_, fun i => ?_, fun dir => ?_⟩
  · rw [hm] at he; cases he
  · rw [hplace] at hp; cases hp
  · rw [hm]; exact .nil
  · rw [hr]; exact .nil
  · rw [hr, hplace]; simp
  · rw [hr]
    cases dir with
    | dl => exact ⟨by simp [Sector.head, hd], fun i hi => by rw [Sector.head, hd] at hi; cases hi⟩
    | ul => exact ⟨by simp [Sector.head, hu], fun i hi => by rw [Sector.head, hu] at hi; cases hi⟩

theorem cleared_restart (m : Nat) (v : Sector) :
    (v.restart m).map = [] ∧ (v.restart m).ring = [] ∧ (v.restart m).dlHead = none ∧ (v.restart m).ulHead = none := by
  rcases Option.eq_none_or_eq_some v.state.link? with h | ⟨l, h⟩
  · rw [Sector.restart_of_noLink m h]
    exact ⟨rfl, rfl, rfl, rfl⟩
  · rw [Sector.restart_of_link m h]
    exact ⟨rfl, rfl, rfl, rfl⟩

/-! ### N and the maps (R13) -/

theorem isHome_iff {s : State} {k : SectorId} : isHome s k = true ↔ ∃ i n, s.placeOf i = some (k, n) := by
  rw [isHome, List.any_eq_true]
  constructor
  · rintro ⟨i, -, h⟩
    split at h
    · next o ho =>
      split at h
      · next k' n hp =>
        rw [decide_eq_true_eq] at h
        subst h
        exact ⟨i, n, placeOf_eq_some.2 ⟨o, ho, hp⟩⟩
      · cases h
    · cases h
  · rintro ⟨i, n, hp⟩
    obtain ⟨o, ho, hp⟩ := placeOf_eq_some.1 hp
    exact ⟨i, mem_allRecords i, by simp [ho, hp]⟩

/-- N passes its check only when no sector that it disables is bound or the home of a record. -/
theorem unused_of_checkItem {s : State} {v : Nat} (hc : checkItem s (.n v) = none) {k : SectorId}
    (hk : clampTo 1 3 v ≤ sectorNo k) (hlt : sectorNo k < s.policy.n) :
    (s.sector k).state.link? = none ∧ ∀ i n, s.placeOf i ≠ some (k, n) := by
  have hlost : k ∈ sectorsLost (clampTo 1 3 v) s.policy.n := by
    rw [sectorsLost, List.mem_filter, decide_eq_true_eq]
    exact ⟨by cases k <;> decide, hk, hlt⟩
  have hany : ¬(sectorsLost (clampTo 1 3 v) s.policy.n).any (fun k => isBound s k || isHome s k) = true := by
    intro h
    rw [checkItem, if_pos h] at hc
    cases hc
  have hfree : ¬(isBound s k || isHome s k) = true := fun h => hany (List.any_eq_true.2 ⟨k, hlost, h⟩)
  rw [Bool.or_eq_true, not_or, isHome_iff] at hfree
  refine ⟨?_, fun i n hp => hfree.2 ⟨i, n, hp⟩⟩
  simpa [isBound] using hfree.1

/-- No sector from a checked N on is the home of a record. -/
theorem noPlace_of_checkItem {s : State} {v : Nat} (hc : checkItem s (.n v) = none) (hN : SectorsFollowN s)
    (hs : s.inAgreement) {k : SectorId} (hk : clampTo 1 3 v ≤ sectorNo k) : ∀ i n, s.placeOf i ≠ some (k, n) := by
  rcases Nat.lt_or_ge (sectorNo k) s.policy.n with hlt | hge
  · exact (unused_of_checkItem hc hk hlt).2
  · exact ((hs k).2.empty ((hs k).1 ((hN k).2 hge))).1

/-- No sector from a checked N on is bound. -/
theorem unbound_of_checkItem {s : State} {v : Nat} (hc : checkItem s (.n v) = none) (hN : SectorsFollowN s) {k : SectorId}
    (hk : clampTo 1 3 v ≤ sectorNo k) : (s.sector k).state.link? = none := by
  rcases Nat.lt_or_ge (sectorNo k) s.policy.n with hlt | hge
  · exact (unused_of_checkItem hc hk hlt).1
  · rw [(hN k).2 hge]
    rfl

/-- Items that pass their check leave a bound sector as it is. -/
theorem sector_applyItems_of_bound {s : State} {items : List (Byte × Byte × Byte)} (hi : firstRefused s 0 items = none)
    (hN : SectorsFollowN s) {k : SectorId} (hk : (s.sector k).state.link? ≠ none) :
    (applyItems s items).state.sector k = s.sector k := by
  refine applyItems_keeps (P := fun u => u.sector k = s.sector k) (fun u item hc hu => ?_) hi rfl
  rcases sector_applyItem u item with ⟨v, rfl, he⟩ | ⟨hv, -⟩
  · have hlt : ¬clampTo 1 3 v ≤ sectorNo k := fun h => hk (unbound_of_checkItem hc hN h)
    have hd : (u.sector k).state ≠ .disabled := by
      rw [hu]
      exact fun h => hk (by rw [h]; rfl)
    rw [he, sector_setN, sectorForN, if_neg hlt, if_neg hd, hu]
  · rw [sector_congr hv, hu]

/-- A sector's map, ring and heads do not change with N. -/
theorem ring_sectorForN {place : RecIdx → Option (SectorId × Nat)} {gen : RecIdx → Nat} {k : SectorId} {v : Sector}
    (n : Nat) (hd : v.state = .disabled → v.map = []) (ha : Agrees place gen k v) :
    (sectorForN n k v).map = v.map ∧ (sectorForN n k v).ring = v.ring ∧
      ∀ dir, (sectorForN n k v).head dir = v.head dir := by
  unfold sectorForN
  split
  · exact ⟨rfl, rfl, head_eq rfl rfl⟩
  · split
    · next h =>
      obtain ⟨-, hr, hdl, hul⟩ := ha.empty (hd h)
      rw [hd h, hr]
      exact ⟨rfl, rfl, head_eq hdl.symm hul.symm⟩
    · exact ⟨rfl, rfl, fun _ => rfl⟩

/-- Items that pass their check keep the agreement; the records stay as they are. -/
theorem inAgreement_applyItems {s : State} {items : List (Byte × Byte × Byte)} (hi : firstRefused s 0 items = none)
    (hN : SectorsFollowN s) (hs : s.inAgreement) : (applyItems s items).state.inAgreement := by
  refine (applyItems_keeps (P := fun u => u.table = s.table ∧ u.inAgreement) (fun u item hc hu => ?_) hi ⟨rfl, hs⟩).2
  obtain ⟨ht, hu⟩ := hu
  have ht' : (applyItem u item).state.table = u.table := by rw [(applyItem_frame u item).1]
  refine ⟨ht'.trans ht, ?_⟩
  rcases sector_applyItem u item with ⟨v, rfl, he⟩ | ⟨hv, -⟩
  · have hr := SameRecords.of_table ht'
    intro k
    obtain ⟨hd, ha⟩ := hu k
    obtain ⟨hm, hring, hhead⟩ := ring_sectorForN (clampTo 1 3 v) hd ha
    rw [he] at hr ⊢
    rw [sector_setN]
    refine ⟨fun hdis => ?_, ha.congr (fun i n => by rw [hr.place]) (fun i n hp => hr.generation i _ hp) hm hring hhead⟩
    rw [hm]
    refine ha.map_eq_nil fun i n hp => ?_
    rw [(SameRecords.of_table ht).place] at hp
    exact noPlace_of_checkItem hc hN hs ((disabled_sectorForN _ _ _).1 hdis) i n hp
  · exact inAgreement_congr (.of_table ht') (.of_sectors hv) hu

/-- A move's target, to which it is claimed, is not DISABLED when a link has it bound. -/
theorem ne_disabled_of_ne_none {st : SectorState} (h : st.link? ≠ none) : st ≠ .disabled := by
  rintro rfl
  exact h rfl

theorem inAgreement_law : Law fun s => (True ∧ SectorsFollowN s) ∧ s.inAgreement where
  background h hs := ⟨sectorsFollowN_law.background h hs.1,
    inAgreement_congr (.of_table h.2.1) (.of_sectors h.2.2.1) hs.2⟩
  window s hs := ⟨sectorsFollowN_law.window s hs.1, hs.2⟩
  presence s k hs := ⟨sectorsFollowN_law.presence s k hs.1,
    inAgreement_congr (sameRecords_evaluatePresence s k) (sameRings_evaluatePresence s k) hs.2⟩
  ages s hs := ⟨sectorsFollowN_law.ages s hs.1,
    inAgreement_congr (sameRecords_raiseAges s) (.of_sectors (raiseAges_sectors s)) hs.2⟩
  credits s snap w hs := ⟨sectorsFollowN_law.credits s snap w hs.1,
    inAgreement_congr (sameRecords_commitCredits s snap w) (.of_sectors (commitCredits_sectors s snap w)) hs.2⟩
  heads s w hs := ⟨sectorsFollowN_law.heads s w hs.1, inAgreement_commitHeads w hs.2⟩
  countdown s hs := ⟨sectorsFollowN_law.countdown s hs.1,
    inAgreement_congr (sameRecords_countdown s) (.of_sectors (countdown_sectors s)) hs.2⟩
  reset selected powerLow q := ⟨sectorsFollowN_law.reset selected powerLow q,
    inAgreement_of_empty (occupant_resetWith selected powerLow q) fun k => by
      rw [sector_resetWith]
      exact ⟨rfl, rfl, rfl, rfl⟩⟩
  items s items hi hs := ⟨sectorsFollowN_law.items s items hi hs.1, inAgreement_applyItems hi hs.1.2 hs.2⟩
  rights s j r hr hs := ⟨sectorsFollowN_law.rights s j r hr hs.1, hs.2⟩
  restart s hs := ⟨sectorsFollowN_law.restart s hs.1,
    inAgreement_of_empty (fun i => by rw [State.occupant, record_restart]) fun k => by
      rw [sector_restart]
      exact cleared_restart _ _⟩
  admitted s i id w rd ru cap hi h0 hid hun hs := ⟨sectorsFollowN_law.admitted s i id w rd ru cap hi h0 hid hun hs.1,
    inAgreement_congr (sameRecords_admitted hi _ id _) (.of_sectors rfl) hs.2⟩
  terms s i o w rd ru cap ho hs := ⟨sectorsFollowN_law.terms s i o w rd ru cap ho hs.1,
    inAgreement_congr (sameRecords_setOccupant ho _ rfl) (.of_sectors rfl) hs.2⟩
  suspended s i o b ho hs := ⟨sectorsFollowN_law.suspended s i o b ho hs.1,
    inAgreement_congr (sameRecords_setOccupant ho _ rfl) (.of_sectors rfl) hs.2⟩
  removed s i o ho hs := ⟨sectorsFollowN_law.removed s i o ho hs.1, inAgreement_removed ho hs.2⟩
  bind s k l hk hl hs := ⟨sectorsFollowN_law.bind s k l hk hl hs.1,
    inAgreement_congr (s := s) (.of_table rfl) (sameRings_bindTo s k l) hs.2⟩
  release s k j hj hs := ⟨sectorsFollowN_law.release s k j hj hs.1,
    inAgreement_congr (sameRecords_releaseBinding s k) (sameRings_releaseBinding s k) hs.2⟩
  attach s k h i o hh ho ha hfree hb hs := ⟨sectorsFollowN_law.attach s k h i o hh ho ha hfree hb hs.1,
    inAgreement_attachTaken hh ho ha hfree (ne_disabled_of_ne_none hb) hs.2⟩
  detach s k h i o hl hs := ⟨sectorsFollowN_law.detach s k h i o hl hs.1, inAgreement_detachTaken hl hs.2⟩
  flagged s k hs := ⟨sectorsFollowN_law.flagged s k hs.1,
    inAgreement_congr (s := s) (.of_table rfl) (sameRings_flagged s k) hs.2⟩
  reported s k entries u hfit hu hs := ⟨sectorsFollowN_law.reported s k entries u hfit hu hs.1,
    inAgreement_congr (sameRecords_reported hu) (.of_sectors hu.sectors) hs.2⟩
  move s k t h i o hl hm ht hq hs := ⟨sectorsFollowN_law.move s k t h i o hl hm ht hq hs.1,
    inAgreement_congr (.of_record (lookup_some hl).1 (record_moveTaken_same s k t h i o)
      (fun _ hj => record_moveTaken_other s k t h i o hj)
      (by
        obtain ⟨o', ho', hp⟩ := placeOf_eq_some.1 (place_of_lookup hl hs.2)
        rw [(lookup_some hl).1] at ho'
        cases ho'
        exact hp.symm))
      (.of_sectors (by rw [moveTaken_frame])) hs.2⟩
  readNotice s k n rest hq hs := ⟨sectorsFollowN_law.readNotice s k n rest hq hs.1,
    inAgreement_congr (.of_table (setQueue_table s k rest)) (.of_sectors (setQueue_sectors s k rest)) hs.2⟩
  claim s k t h h' n i o hh ho ha hfree hb hs := ⟨sectorsFollowN_law.claim s k t h h' n i o hh ho ha hfree hb hs.1,
    inAgreement_claimTaken hh ho ha hfree (ne_disabled_of_ne_none hb) hs.2⟩
  cancelMove s i o k t h n ho ha hs := ⟨sectorsFollowN_law.cancelMove s i o k t h n ho ha hs.1,
    inAgreement_congr (sameRecords_cancelMoveOf s i) (.of_sectors (cancelMoveOf_sectors s i)) hs.2⟩

/-- Settles O59: records leave and join the sectors with their entries, and N disables no sector that is a home. -/
theorem mapAndRingLawsKept : Obligations.MapAndRingLawsKept := by
  intro s t hs ht
  rw [mapsAndRingsAgree_iff] at hs ⊢
  obtain ⟨⟨-, hn⟩, ha⟩ := inAgreement_law.kept.step ⟨⟨trivial, hs.1⟩, hs.2⟩ ht
  exact ⟨hn, ha⟩

end Sys2Proof.Machine
end

section
/-! Proofs that every step keeps the notice queues in order, and HANDOVER pending exactly while the bound sector has a
notice. -/

namespace Sys2Proof.Machine

open Sys2Proof.Safety

/-! ### Operations that leave the queues alone -/

/-- Every queue is as it was, and every sector whose queue holds a notice keeps its state. -/
def SameQueues (s t : State) : Prop :=
  (∀ k, t.queue k = s.queue k) ∧ ∀ k, s.queue k ≠ [] → (t.sector k).state = (s.sector k).state

/-- HANDOVER is on every link as it was. -/
def SameHandover (s t : State) : Prop := ∀ l, (t.port l).causes.handover = (s.port l).causes.handover

theorem SameQueues.of_states {s t : State} (hq : t.queues = s.queues) (hv : SameStates s t) : SameQueues s t :=
  ⟨queue_congr hq, fun k _ => hv.2 k⟩

theorem SameQueues.of_sectors {s t : State} (hq : t.queues = s.queues) (hv : t.sectors = s.sectors) : SameQueues s t :=
  ⟨queue_congr hq, fun k _ => by rw [sector_congr hv]⟩

theorem SameHandover.of_ports {s t : State} (h : t.ports = s.ports) : SameHandover s t := fun l => by rw [port_congr h]

theorem sameHandover_raiseSectorState (s : State) : SameHandover s s.raiseSectorState := fun l => by
  rw [port_raiseSectorState]
  simp [Port.evaluated]

theorem sameHandover_applyItem (s : State) (item : PolicyItem) : SameHandover s (applyItem s item).state := by
  rcases sector_applyItem s item with ⟨v, -, h⟩ | h
  · rw [h]
    unfold State.setN
    dsimp only
    split
    · exact sameHandover_raiseSectorState _
    · exact .of_ports rfl
  · cases item with
    | n v => exact absurd rfl (h.2.2 v)
    | _ => exact .of_ports rfl

/-- A PRESENT sector is bound. -/
theorem link_ne_none_of_isPresent {st : SectorState} (h : st.isPresent = true) : st.link? ≠ none := by
  cases st with
  | present => exact Option.some_ne_none _
  | disabled | unbound | silent => cases h

/-- Items that pass their check leave HANDOVER and the sectors with a notice alone. -/
theorem same_applyItems {s : State} {items : List (Byte × Byte × Byte)} (hi : firstRefused s 0 items = none)
    (hN : SectorsFollowN s) (hp : ∀ k, s.queue k ≠ [] → (s.sector k).state.isPresent = true) :
    SameQueues s (applyItems s items).state ∧ SameHandover s (applyItems s items).state := by
  refine ⟨⟨queue_congr (by rw [(applyItems_frame s items).1]), fun k hk => ?_⟩,
    applyItems_keeps (P := SameHandover s)
      (fun u item _ hu l => (sameHandover_applyItem u item l).trans (hu l)) hi fun _ => rfl⟩
  rw [sector_applyItems_of_bound hi hN]
  exact link_ne_none_of_isPresent (hp k hk)

/-- A sector that is not bound, or not PRESENT, has no notice to lose. -/
theorem sameQueues_of_other {s t : State} {k : SectorId} (hq : t.queues = s.queues) (hk : s.queue k = [])
    (hother : ∀ j, j ≠ k → (t.sector j).state = (s.sector j).state) : SameQueues s t :=
  ⟨queue_congr hq, fun j hj => hother j fun h => hj (h ▸ hk)⟩

/-! ### HANDOVER -/

/-- Only a PRESENT sector's queue holds notices, and HANDOVER is pending on its link exactly then. -/
def HandoverMatches (s : State) : Prop :=
  (∀ t, s.queue t ≠ [] → (s.sector t).state.isPresent = true) ∧
  ∀ l, (s.port l).causes.handover = true ↔ ∃ k, (s.sector k).state.link? = some l ∧ s.queue k ≠ []

theorem handoverMatches_congr {s t : State} (hq : SameQueues s t) (hh : SameHandover s t) (hs : HandoverMatches s) :
    HandoverMatches t := by
  obtain ⟨hp, hl⟩ := hs
  obtain ⟨hq, hv⟩ := hq
  refine ⟨fun k hk => ?_, fun l => ?_⟩
  · rw [hq] at hk
    rw [hv k hk]
    exact hp k hk
  · rw [hh, hl]
    refine exists_congr fun k => ?_
    rw [hq]
    constructor <;> rintro ⟨hlink, hk⟩
    · exact ⟨by rw [hv k hk]; exact hlink, hk⟩
    · exact ⟨by rw [hv k hk] at hlink; exact hlink, hk⟩

theorem handoverMatches_mapOccupants {s : State} (f : RecIdx → Occupant → Occupant) (hs : HandoverMatches s) :
    HandoverMatches (s.mapOccupants f) :=
  handoverMatches_congr (.of_sectors (mapOccupants_queues s f) (mapOccupants_sectors s f))
    (.of_ports (mapOccupants_ports s f)) hs

/-- A queue is replaced; HANDOVER follows it on the sector's link. -/
theorem handoverMatches_setQueue {s : State} {k : SectorId} {q : List Notice} (hb : BindingsUnique s)
    (hq : q ≠ [] → (s.sector k).state.isPresent = true) (hs : HandoverMatches s) : HandoverMatches (s.setQueue k q) := by
  obtain ⟨hp, hl⟩ := hs
  have hsec := sector_congr (setQueue_sectors s k q)
  refine ⟨fun j hj => ?_, fun l => ?_⟩
  · rw [setQueue_queue] at hj
    rw [hsec]
    split at hj
    · next h => subst h; exact hq hj
    · exact hp j hj
  · rw [setQueue_port]
    simp only [hsec, setQueue_queue]
    split
    · next hk =>
      have : (!q.isEmpty) = true ↔ q ≠ [] := by cases q <;> simp
      rw [this]
      refine ⟨fun h => ⟨k, hk, by rwa [if_pos rfl]⟩, ?_⟩
      rintro ⟨j, hj, hne⟩
      rwa [hb j k l hj hk, if_pos rfl] at hne
    · next hk =>
      rw [hl]
      refine exists_congr fun j => and_congr_right fun hj => ?_
      rw [if_neg]
      rintro rfl
      exact hk hj

theorem handoverMatches_withdraw {s : State} (t : SectorId) (i : RecIdx) (hb : BindingsUnique s)
    (hs : HandoverMatches s) : HandoverMatches (s.withdraw t i) := by
  unfold State.withdraw
  split
  · exact handoverMatches_setQueue hb (fun h => hs.1 t fun hn => h (by rw [hn]; rfl)) hs
  · exact hs

theorem bindingsUnique_congr {s t : State} (hv : t.sectors = s.sectors) (hs : BindingsUnique s) : BindingsUnique t :=
  BindingsUnique.mono hs fun k l h => by rwa [sector_congr hv] at h

theorem handoverMatches_cancelMoveOf {s : State} (i : RecIdx) (hb : BindingsUnique s) (hs : HandoverMatches s) :
    HandoverMatches (s.cancelMoveOf i) := by
  unfold State.cancelMoveOf
  split
  · split
    · exact handoverMatches_withdraw _ i (bindingsUnique_congr (s := s) rfl hb)
        (handoverMatches_congr (s := s) (.of_sectors rfl rfl) (.of_ports rfl) hs)
    · exact hs
    · exact hs
  · exact hs

theorem handoverMatches_countdown {s : State} (hb : BindingsUnique s) (hs : HandoverMatches s) :
    HandoverMatches s.countdown := by
  have hfold : ∀ (ks : List SectorId) (u : State), u.sectors = s.sectors → HandoverMatches u →
      HandoverMatches (ks.foldl (fun t k => t.setQueue k (countdownQueue s (s.queue k))) u) := by
    intro ks
    induction ks with
    | nil => exact fun u _ hu => hu
    | cons k ks ih =>
      intro u hv hu
      refine ih _ ((setQueue_sectors _ _ _).trans hv) (handoverMatches_setQueue (bindingsUnique_congr hv hb) (fun h => ?_) hu)
      rw [sector_congr hv]
      exact hs.1 k fun hn => h (by rw [hn, countdownQueue, List.filter_nil, List.map_nil])
  exact hfold allSectors (s.mapOccupants fun _ o => o.countdown) (mapOccupants_sectors s _)
    (handoverMatches_mapOccupants _ hs)

/-- A sector that stays PRESENT through its evaluation keeps its state of PRESENT. -/
theorem isPresent_evaluated {m : Nat} {v : Sector} (hp : v.state.isPresent = true) (hf : ¬v.fallsSilent m = true) :
    (v.evaluated m).state.isPresent = true := by
  rw [fallsSilent_iff] at hf
  simpa [hp] using hf

theorem handoverMatches_evaluatePresence {s : State} (k : SectorId) (hb : BindingsUnique s) (hs : HandoverMatches s) :
    HandoverMatches (s.evaluatePresence k) := by
  obtain ⟨hp, hl⟩ := hs
  have hlink : ∀ j, ((s.evaluatePresence k).sector j).state.link? = (s.sector j).state.link? := fun j => by
    rw [sector_evaluatePresence]
    split
    · rw [link_evaluated]
    · rfl
  refine ⟨fun j hj => ?_, fun l => ?_⟩
  · rw [queue_evaluatePresence] at hj
    split at hj
    · exact absurd rfl hj
    · next h =>
      rw [sector_evaluatePresence]
      split
      · next hjk => exact isPresent_evaluated (hp j hj) fun hf => h ⟨hjk, hf⟩
      · exact hp j hj
  · simp only [hlink, queue_evaluatePresence, port_evaluatePresence]
    have hport : ((s.port l).evaluated ((s.sector k).changesState s.policy.m)
        ((s.sector k).fallsSilent s.policy.m && decide ((s.sector k).state.link? = some l))).causes.handover =
        ((s.port l).causes.handover &&
          !((s.sector k).fallsSilent s.policy.m && decide ((s.sector k).state.link? = some l))) := rfl
    rw [hport, Bool.and_eq_true, hl, Bool.not_eq_true', Bool.and_eq_false_iff, decide_eq_false_iff_not]
    constructor
    · rintro ⟨⟨j, hj, hne⟩, hc⟩
      refine ⟨j, hj, ?_⟩
      rw [if_neg]
      · exact hne
      · rintro ⟨rfl, hf⟩
        rcases hc with hc | hc
        · rw [hf] at hc; cases hc
        · exact hc hj
    · rintro ⟨j, hj, hne⟩
      split at hne
      · exact absurd rfl hne
      · next h =>
        refine ⟨⟨j, hj, hne⟩, ?_⟩
        by_cases hk : (s.sector k).state.link? = some l
        · have hjk := hb j k l hj hk
          exact .inl (by simpa [hjk] using h)
        · exact .inr hk

/-- A record leaves the table's state with its notice withdrawn: what follows touches no queue. -/
theorem handoverMatches_of_cancelMoveOf {s t : State} {i : RecIdx} (hq : t.queues = (s.cancelMoveOf i).queues)
    (hl : t.ports = (s.cancelMoveOf i).ports) (hv : SameStates s t) (hb : BindingsUnique s) (hs : HandoverMatches s) :
    HandoverMatches t :=
  handoverMatches_congr
    ⟨queue_congr hq, fun k _ => by rw [hv.2, sector_congr (cancelMoveOf_sectors s i)]⟩ (.of_ports hl)
    (handoverMatches_cancelMoveOf i hb hs)

theorem handoverMatches_releaseBinding {s : State} (k : SectorId) (hb : BindingsUnique s) (hs : HandoverMatches s) :
    HandoverMatches (s.releaseBinding k) := by
  have hc : HandoverMatches (s.cancelMovesTo k) :=
    handoverMatches_setQueue (bindingsUnique_congr (mapOccupants_sectors s _) hb) (fun h => absurd rfl h)
      (handoverMatches_mapOccupants _ hs)
  refine handoverMatches_congr (s := s.cancelMovesTo k) (sameQueues_of_other (k := k) rfl ?_ fun j hj => ?_)
    (sameHandover_raiseSectorState ((s.cancelMovesTo k).setSector k _)) hc
  · rw [cancelMovesTo_queue, if_pos rfl]
  · rw [sector_congr (cancelMovesTo_sectors s k)]
    exact congrArg Sector.state (by rw [sector_releaseBinding, if_neg hj])

theorem handoverMatches_claimTaken {s : State} {k t : SectorId} {h h' : Nat} {i : RecIdx} {o : Occupant}
    (hb : BindingsUnique s) (hs : HandoverMatches s) : HandoverMatches (claimTaken s k t h h' i o).state := by
  have hv : SameStates s (s.rehomed k t h h' i o) := by
    refine ⟨rfl, fun j => ?_⟩
    have := (sameStates_claimTaken s k t h h' i o).2 j
    rwa [sector_congr (claimTaken_sectors s k t h h' i o)] at this
  have hr := handoverMatches_congr (s := s) (t := s.rehomed k t h h' i o) (.of_states rfl hv) (.of_ports rfl) hs
  have hw := handoverMatches_withdraw t i (BindingsUnique.mono hb fun j l hj => by rwa [hv.2 j] at hj) hr
  exact handoverMatches_congr (s := (s.rehomed k t h h' i o).withdraw t i) (.of_sectors rfl rfl) (.of_ports rfl) hw

theorem handover_resetPort (b : Bool) : (resetPort b).causes.handover = false := by cases b <;> rfl

/-- N, the bindings and the DISABLED sectors are as they must be. -/
def SectorsLawful (s : State) : Prop := (True ∧ SectorsFollowN s) ∧ BindingsUnique s

theorem sectorsLawful_law : Law SectorsLawful := bindingsUnique_law sectorsFollowN_law

theorem handoverMatches_law : Law fun s => SectorsLawful s ∧ HandoverMatches s where
  background h hs := ⟨sectorsLawful_law.background h hs.1,
    handoverMatches_congr (.of_sectors h.2.2.2.1 h.2.2.1) h.2.2.2.2 hs.2⟩
  window s hs := ⟨sectorsLawful_law.window s hs.1, hs.2⟩
  presence s k hs := ⟨sectorsLawful_law.presence s k hs.1, handoverMatches_evaluatePresence k hs.1.2 hs.2⟩
  ages s hs := ⟨sectorsLawful_law.ages s hs.1,
    handoverMatches_congr (.of_sectors (raiseAges_queues s) (raiseAges_sectors s)) (.of_ports (raiseAges_ports s)) hs.2⟩
  credits s snap w hs := ⟨sectorsLawful_law.credits s snap w hs.1,
    handoverMatches_congr (.of_sectors (commitCredits_queues s snap w) (commitCredits_sectors s snap w))
      (.of_ports (commitCredits_ports s snap w)) hs.2⟩
  heads s w hs := ⟨sectorsLawful_law.heads s w hs.1,
    handoverMatches_congr (s := s) (.of_states rfl (sameStates_commitHeads s w)) (.of_ports rfl) hs.2⟩
  countdown s hs := ⟨sectorsLawful_law.countdown s hs.1, handoverMatches_countdown hs.1.2 hs.2⟩
  reset selected powerLow q := ⟨sectorsLawful_law.reset selected powerLow q,
    fun k hk => absurd (queue_resetWith selected powerLow q k) hk, fun l => by
      rw [port_resetWith]
      simp only [queue_resetWith, handover_resetPort]
      simp⟩
  items s items hi hs := by
    obtain ⟨hq, hh⟩ := same_applyItems hi hs.1.1.2 hs.2.1
    exact ⟨sectorsLawful_law.items s items hi hs.1, handoverMatches_congr hq hh hs.2⟩
  rights s j r hr hs := ⟨sectorsLawful_law.rights s j r hr hs.1, hs.2⟩
  restart s hs := ⟨sectorsLawful_law.restart s hs.1, fun k hk => absurd (queue_restart s k) hk, fun l => by
    simp [queue_restart, port_restart]⟩
  admitted s i id w rd ru cap hi h0 hid hun hs := ⟨sectorsLawful_law.admitted s i id w rd ru cap hi h0 hid hun hs.1, hs.2⟩
  terms s i o w rd ru cap ho hs := ⟨sectorsLawful_law.terms s i o w rd ru cap ho hs.1, hs.2⟩
  suspended s i o b ho hs := ⟨sectorsLawful_law.suspended s i o b ho hs.1, hs.2⟩
  removed s i o ho hs := ⟨sectorsLawful_law.removed s i o ho hs.1,
    handoverMatches_of_cancelMoveOf (i := i) (leaveHome_queues _ i) (leaveHome_ports _ i) (sameStates_removed s i) hs.1.2 hs.2⟩
  bind s k l hk hl hs := ⟨sectorsLawful_law.bind s k l hk hl hs.1, by
    refine handoverMatches_congr (s := s) (sameQueues_of_other (k := k) rfl ?_ fun j hj => ?_)
      (sameHandover_raiseSectorState (s.setSector k _)) hs.2
    · by_contra hq
      have := hs.2.1 k hq
      rw [hk] at this
      cases this
    · exact congrArg Sector.state (by rw [sector_bindTo, if_neg hj])⟩
  release s k j hj hs := ⟨sectorsLawful_law.release s k j hj hs.1, handoverMatches_releaseBinding k hs.1.2 hs.2⟩
  attach s k h i o hh ho ha hfree hb hs := ⟨sectorsLawful_law.attach s k h i o hh ho ha hfree hb hs.1,
    handoverMatches_congr (s := s) (.of_states rfl (sameStates_attachTaken s k h i o)) (.of_ports rfl) hs.2⟩
  detach s k h i o hl hs := ⟨sectorsLawful_law.detach s k h i o hl hs.1,
    handoverMatches_of_cancelMoveOf (i := i) rfl rfl (sameStates_detachTaken s k h i o) hs.1.2 hs.2⟩
  flagged s k hs := ⟨sectorsLawful_law.flagged s k hs.1,
    handoverMatches_congr (s := s) (.of_states rfl (sameStates_flagged s k)) (.of_ports rfl) hs.2⟩
  reported s k entries u hfit hu hs := ⟨sectorsLawful_law.reported s k entries u hfit hu hs.1,
    handoverMatches_congr (.of_sectors (by rw [hu.frame]) hu.sectors) (.of_ports (by rw [hu.frame])) hs.2⟩
  move s k t h i o hl hm ht hq hs := ⟨sectorsLawful_law.move s k t h i o hl hm ht hq hs.1,
    handoverMatches_setQueue (bindingsUnique_congr (s := s) rfl hs.1.2) (fun _ => ht)
      (handoverMatches_congr (s := s) (.of_sectors rfl rfl) (.of_ports rfl) hs.2)⟩
  readNotice s k n rest hq hs := ⟨sectorsLawful_law.readNotice s k n rest hq hs.1,
    handoverMatches_setQueue hs.1.2 (fun _ => hs.2.1 k (by rw [hq]; simp)) hs.2⟩
  claim s k t h h' n i o hh ho ha hfree hb hs := ⟨sectorsLawful_law.claim s k t h h' n i o hh ho ha hfree hb hs.1,
    handoverMatches_claimTaken hs.1.2 hs.2⟩
  cancelMove s i o k t h n ho ha hs := ⟨sectorsLawful_law.cancelMove s i o k t h n ho ha hs.1,
    handoverMatches_cancelMoveOf i hs.1.2 hs.2⟩

end Sys2Proof.Machine
end

section
/-! Proofs that every step keeps the notices of a queue those of the records that move there. -/

namespace Sys2Proof.Machine

open Sys2Proof.Safety

/-! ### Notices and the records they name -/

/-- Each queue is as R137 has it. -/
def QueuesInOrder (s : State) : Prop :=
  ∀ t, (s.queue t).length ≤ 8 ∧ (∀ n ∈ s.queue t, noticeOk s t n) ∧ ((s.queue t).map Notice.index).Nodup ∧
    (s.queue t ≠ [] → (s.sector t).state.isPresent = true)

/-- A record that moves to `t` in `s` is in use in `u` with its id, its generation and its attachment. -/
def SameMoves (t : SectorId) (s u : State) : Prop :=
  ∀ i o k h n, s.occupant i = some o → o.attachment = .moving k h t n →
    ∃ o', u.occupant i = some o' ∧ o'.attachment = o.attachment ∧ o'.id = o.id ∧
      (u.record i).generation = (s.record i).generation

theorem noticeOk_congr {t : SectorId} {s u : State} (h : SameMoves t s u) {n : Notice} (hn : noticeOk s t n) :
    noticeOk u t n := by
  obtain ⟨o, hh, ho, ha, hid, hg⟩ := hn
  obtain ⟨o', ho', ha', hid', hg'⟩ := h n.index o n.source hh n.frames ho ha
  exact ⟨o', hh, ho', ha'.trans ha, hid'.trans hid, hg'.trans hg⟩

theorem SameMoves.of_table {t : SectorId} {s u : State} (h : u.table = s.table) : SameMoves t s u :=
  fun i o _ _ _ ho _ => ⟨o, by rw [occupant_congr h, ho], rfl, rfl, by rw [record_congr h]⟩

theorem SameMoves.of_map {t : SectorId} {s u : State} {f : RecIdx → Occupant → Occupant}
    (hgen : ∀ i, (u.record i).generation = (s.record i).generation)
    (hocc : ∀ i, u.occupant i = (s.occupant i).map (f i))
    (hf : ∀ i o k h n, o.attachment = .moving k h t n → (f i o).attachment = o.attachment ∧ (f i o).id = o.id) :
    SameMoves t s u := by
  intro i o k h n ho ha
  obtain ⟨ha', hid⟩ := hf i o k h n ha
  exact ⟨f i o, by rw [hocc, ho]; rfl, ha', hid, hgen i⟩

/-- One record is written, and it did not move to `t`, or stays as it was. -/
theorem SameMoves.of_record {t : SectorId} {s u : State} {i : RecIdx} (hother : ∀ j, j ≠ i → u.record j = s.record j)
    (hi : ∀ o k h n, s.occupant i = some o → o.attachment ≠ .moving k h t n) : SameMoves t s u := by
  intro j o k h n ho ha
  have hj : j ≠ i := by
    rintro rfl
    exact hi o k h n ho ha
  have hr := hother j hj
  exact ⟨o, by rw [State.occupant, hr]; exact ho, rfl, rfl, by rw [hr]⟩

theorem sameMoves_setOccupant {t : SectorId} {s : State} {i : RecIdx} {o o' : Occupant} (ho : s.occupant i = some o)
    (ha : o'.attachment = o.attachment) (hid : o'.id = o.id) : SameMoves t s (s.setOccupant i (some o')) := by
  intro j p k h n hp hm
  by_cases hj : j = i
  · subst hj
    rw [ho] at hp
    cases hp
    exact ⟨o', occupant_setOccupant_same s j _, ha, hid, generation_setOccupant s j j _⟩
  · exact ⟨p, by rw [occupant_setOccupant_other s _ hj, hp], rfl, rfl, generation_setOccupant s i j _⟩

theorem queuesInOrder_congr {s u : State} (hm : ∀ t, SameMoves t s u) (hq : SameQueues s u) (hs : QueuesInOrder s) :
    QueuesInOrder u := by
  intro t
  obtain ⟨hlen, hok, hnodup, hp⟩ := hs t
  rw [hq.1]
  exact ⟨hlen, fun n hn => noticeOk_congr (hm t) (hok n hn), hnodup, fun hne => by rw [hq.2 t hne]; exact hp hne⟩

/-- Some notices of a queue are dropped. -/
theorem queueInOrder_filter {q : List Notice} (p : Notice → Bool) (hlen : q.length ≤ 8)
    (hnodup : (q.map Notice.index).Nodup) :
    (q.filter p).length ≤ 8 ∧ ((q.filter p).map Notice.index).Nodup :=
  ⟨(List.length_filter_le p q).trans hlen, (List.filter_sublist.map _).nodup hnodup⟩

/-- A record leaves its move and its notice is withdrawn; the other records stay as they are. -/
theorem queuesInOrder_of_withdrawn {s u : State} {i : RecIdx} {o : Occupant} (ho : s.occupant i = some o)
    (hw : NoticeWithdrawn s i o.attachment u) (hother : ∀ j, j ≠ i → u.record j = s.record j)
    (hv : ∀ k, (u.sector k).state = (s.sector k).state) (hs : QueuesInOrder s) : QueuesInOrder u := by
  intro t
  obtain ⟨hlen, hok, hnodup, hp⟩ := hs t
  have hne : ∀ n ∈ u.queue t, n ∈ s.queue t ∧ n.index ≠ i := by
    intro n hn
    rw [hw t] at hn
    split at hn
    · simpa using hn
    · next hmove =>
      refine ⟨hn, ?_⟩
      rintro rfl
      obtain ⟨o', hh, ho', ha, -⟩ := hok n hn
      rw [ho] at ho'
      cases ho'
      exact hmove (by simp [ha, Attachment.movesTo, Attachment.move?])
  have hsub : (u.queue t).length ≤ 8 ∧ ((u.queue t).map Notice.index).Nodup := by
    rw [hw t]
    split
    · exact queueInOrder_filter _ hlen hnodup
    · exact ⟨hlen, hnodup⟩
  refine ⟨hsub.1, fun n hn => ?_, hsub.2, fun hq => ?_⟩
  · obtain ⟨hn, hni⟩ := hne n hn
    obtain ⟨o', hh, ho', ha, hid, hg⟩ := hok n hn
    have hr := hother n.index hni
    exact ⟨o', hh, by rw [State.occupant, hr]; exact ho', ha, hid, by rw [hr]; exact hg⟩
  · obtain ⟨n, hn⟩ := List.exists_mem_of_ne_nil _ hq
    rw [hv]
    exact hp (List.ne_nil_of_mem (hne n hn).1)

/-! ### The countdown of a frame start (R147) -/

theorem foldl_setQueue_queue (q : SectorId → List Notice) {ks : List SectorId} (hks : ks.Nodup) (u : State) (k : SectorId) :
    (ks.foldl (fun t k => t.setQueue k (q k)) u).queue k = if k ∈ ks then q k else u.queue k := by
  induction ks generalizing u with
  | nil => simp
  | cons j ks ih =>
    obtain ⟨hj, hks⟩ := List.nodup_cons.1 hks
    rw [List.foldl_cons, ih hks, setQueue_queue]
    by_cases hk : k = j
    · subst hk; simp [hj]
    · simp [hk]

/-- The queues after the countdown of a frame start. -/
theorem countdown_queue (s : State) (k : SectorId) : s.countdown.queue k = countdownQueue s (s.queue k) := by
  have := foldl_setQueue_queue (fun k => countdownQueue s (s.queue k)) (ks := allSectors) (by decide)
    (s.mapOccupants fun _ o => o.countdown) k
  rwa [if_pos (mem_allSectors k)] at this

/-- A move expires exactly when one frame remains at most. -/
theorem expiresNow_of_moving {s : State} {i : RecIdx} {o : Occupant} {k t : SectorId} {h n : Nat}
    (ho : s.occupant i = some o) (ha : o.attachment = .moving k h t n) : expiresNow s i = decide (n ≤ 1) := by
  simp [expiresNow, ho, ha, Attachment.move?]

theorem queuesInOrder_countdown {s : State} (hs : QueuesInOrder s) : QueuesInOrder s.countdown := by
  intro t
  obtain ⟨hlen, hok, hnodup, hp⟩ := hs t
  obtain ⟨hlen', hnodup'⟩ := queueInOrder_filter (fun n => !expiresNow s n.index) hlen hnodup
  rw [countdown_queue]
  unfold countdownQueue
  refine ⟨by rwa [List.length_map], fun m hm => ?_, by rwa [List.map_map], fun hne => ?_⟩
  · obtain ⟨n, hn, rfl⟩ := List.mem_map.1 hm
    obtain ⟨hn, hlive⟩ := List.mem_filter.1 hn
    obtain ⟨o, hh, ho, ha, hid, hg⟩ := hok n hn
    rw [expiresNow_of_moving ho ha] at hlive
    have hcount : o.countdown = { o with attachment := .moving n.source hh t (n.frames - 1) } := by
      simp only [Occupant.countdown, ha]
      rw [if_neg (by simpa using hlive)]
    refine ⟨o.countdown, hh, ?_, by rw [hcount], by rw [hcount]; exact hid, by rw [countdown_record]; exact hg⟩
    rw [State.occupant, countdown_record]
    show (s.occupant n.index).map Occupant.countdown = _
    rw [ho]
    rfl
  · rw [sector_congr (countdown_sectors s)]
    exact hp fun h => hne (by rw [h, List.filter_nil, List.map_nil])

/-! ### A sector that loses its moves (R80, R149) -/

/-- The queue of one sector is emptied and the moves to it are ended; the other queues and moves stay. -/
theorem queuesInOrder_of_emptied {s u : State} {k : SectorId} (hk : u.queue k = [])
    (hq : ∀ t, t ≠ k → u.queue t = s.queue t) (hm : ∀ t, t ≠ k → SameMoves t s u)
    (hv : ∀ t, t ≠ k → (u.sector t).state = (s.sector t).state) (hs : QueuesInOrder s) : QueuesInOrder u := by
  intro t
  by_cases ht : t = k
  · subst ht
    rw [hk]
    exact ⟨Nat.zero_le _, fun n hn => (nomatch hn), .nil, fun h => absurd rfl h⟩
  · obtain ⟨hlen, hok, hnodup, hp⟩ := hs t
    rw [hq t ht, hv t ht]
    exact ⟨hlen, fun n hn => noticeOk_congr (hm t ht) (hok n hn), hnodup, hp⟩

theorem queuesInOrder_evaluatePresence {s : State} (k : SectorId) (hs : QueuesInOrder s) :
    QueuesInOrder (s.evaluatePresence k) := by
  have hmap : ∀ t, ¬(t = k ∧ (s.sector k).fallsSilent s.policy.m = true) → SameMoves t s (s.evaluatePresence k) := by
    intro t ht
    refine .of_map (generation_evaluatePresence s k) (occupant_evaluatePresence s k) fun i o k' h n ha => ?_
    refine ⟨?_, rfl⟩
    simp only [Occupant.settleIf, ha, Attachment.settleIf]
    rw [if_neg (by simpa using ht)]
  by_cases hf : (s.sector k).fallsSilent s.policy.m = true
  · refine queuesInOrder_of_emptied (k := k) ?_ (fun t ht => ?_) (fun t ht => hmap t fun h => ht h.1) (fun t ht => ?_) hs
    · rw [queue_evaluatePresence, if_pos ⟨rfl, hf⟩]
    · rw [queue_evaluatePresence, if_neg fun h => ht h.1]
    · rw [sector_evaluatePresence, if_neg ht]
  · intro t
    obtain ⟨hlen, hok, hnodup, hp⟩ := hs t
    have hq : (s.evaluatePresence k).queue t = s.queue t := by
      rw [queue_evaluatePresence, if_neg]
      rintro ⟨rfl, h⟩
      exact hf h
    rw [hq]
    refine ⟨hlen, fun n hn => noticeOk_congr (hmap t fun h => hf h.2) (hok n hn), hnodup, fun hne => ?_⟩
    rw [sector_evaluatePresence]
    split
    · next h => subst h; exact isPresent_evaluated (hp hne) hf
    · exact hp hne

theorem queuesInOrder_releaseBinding {s : State} (k : SectorId) (hs : QueuesInOrder s) :
    QueuesInOrder (s.releaseBinding k) := by
  obtain ⟨-, -, hg, -, hsome, hk, hq, -⟩ := released_releaseBinding s k
  refine queuesInOrder_of_emptied hk hq (fun t ht i o k' h n ho ha => ?_) (fun t ht => ?_) hs
  · refine ⟨o, (hsome i o ho).2 fun h' n' f' ha' => ht ?_, rfl, rfl, hg i⟩
    rw [ha] at ha'
    cases ha'
    rfl
  · rw [sector_releaseBinding, if_neg ht]

/-! ### A move is offered (R139) -/

theorem queuesInOrder_moveTaken {s : State} {k t : SectorId} {h : Nat} {i : RecIdx} {o : Occupant}
    (ho : s.occupant i = some o) (hm : o.attachment.move? = none) (ht : (s.sector t).state.isPresent = true)
    (hlen : (s.queue t).length < 8) (hs : QueuesInOrder s) : QueuesInOrder (moveTaken s k t h i o).state := by
  have hsame := record_moveTaken_same s k t h i o
  have hmoves : ∀ q, SameMoves q s (moveTaken s k t h i o).state := fun q =>
    .of_record (fun _ hj => record_moveTaken_other s k t h i o hj) fun o' k' h' n ho' ha => by
      rw [ho] at ho'
      cases ho'
      rw [ha] at hm
      cases hm
  have hsec : ∀ q, (moveTaken s k t h i o).state.sector q = s.sector q := sector_congr (by rw [moveTaken_frame])
  intro q
  obtain ⟨hq, hok, hnodup, hp⟩ := hs q
  rw [hsec]
  by_cases hqt : q = t
  · subst hqt
    rw [queue_moveTaken_same]
    refine ⟨by rw [List.length_append, List.length_singleton]; omega, fun n hn => ?_, ?_, fun _ => ht⟩
    · rcases List.mem_append.1 hn with hn | hn
      · exact noticeOk_congr (hmoves q) (hok n hn)
      · rw [List.mem_singleton.1 hn]
        exact ⟨{ o with attachment := .moving k h q s.policy.hlim, lapse := none }, h, congrArg Record.occupant hsame,
          rfl, rfl, congrArg (fun r => r.generation) hsame⟩
    · rw [List.map_append, List.nodup_append]
      refine ⟨hnodup, List.nodup_singleton _, fun a ha b hb hab => ?_⟩
      obtain ⟨n, hn, rfl⟩ := List.mem_map.1 ha
      rw [List.mem_singleton.1 hb] at hab
      obtain ⟨o', hh, ho', ha', -⟩ := hok n hn
      rw [show n.index = i from hab, ho] at ho'
      cases ho'
      rw [ha'] at hm
      cases hm
  · rw [queue_moveTaken_other s k t h i o hqt]
    exact ⟨hq, fun n hn => noticeOk_congr (hmoves q) (hok n hn), hnodup, hp⟩

/-! ### The law -/

theorem queuesInOrder_of_noNotice {s : State} (h : ∀ k, s.queue k = []) : QueuesInOrder s := fun t => by
  rw [h t]
  exact ⟨Nat.zero_le _, fun n hn => (nomatch hn), .nil, fun hne => absurd rfl hne⟩

theorem queuesInOrder_law : Law fun s => (True ∧ SectorsFollowN s) ∧ QueuesInOrder s where
  background h hs := ⟨sectorsFollowN_law.background h hs.1,
    queuesInOrder_congr (fun _ => .of_table h.2.1) (.of_sectors h.2.2.2.1 h.2.2.1) hs.2⟩
  window s hs := ⟨sectorsFollowN_law.window s hs.1, hs.2⟩
  presence s k hs := ⟨sectorsFollowN_law.presence s k hs.1, queuesInOrder_evaluatePresence k hs.2⟩
  ages s hs := ⟨sectorsFollowN_law.ages s hs.1,
    queuesInOrder_congr (fun _ => .of_map (fun i => by rw [State.raiseAges, record_mapOccupants])
      (fun i => by rw [State.raiseAges, occupant_mapOccupants]) fun _ _ _ _ _ _ => by split <;> exact ⟨rfl, rfl⟩)
      (.of_sectors (raiseAges_queues s) (raiseAges_sectors s)) hs.2⟩
  credits s snap w hs := ⟨sectorsFollowN_law.credits s snap w hs.1,
    queuesInOrder_congr (fun _ => .of_map (fun i => by rw [State.commitCredits, record_mapOccupants])
      (fun i => by rw [State.commitCredits, occupant_mapOccupants]) fun _ _ _ _ _ _ => by
        split
        · split <;> exact ⟨rfl, rfl⟩
        · exact ⟨rfl, rfl⟩)
      (.of_sectors (commitCredits_queues s snap w) (commitCredits_sectors s snap w)) hs.2⟩
  heads s w hs := ⟨sectorsFollowN_law.heads s w hs.1,
    queuesInOrder_congr (s := s) (fun _ => .of_table rfl) (.of_states rfl (sameStates_commitHeads s w)) hs.2⟩
  countdown s hs := ⟨sectorsFollowN_law.countdown s hs.1, queuesInOrder_countdown hs.2⟩
  reset selected powerLow q := ⟨sectorsFollowN_law.reset selected powerLow q,
    queuesInOrder_of_noNotice (queue_resetWith selected powerLow q)⟩
  items s items hi hs := ⟨sectorsFollowN_law.items s items hi hs.1,
    queuesInOrder_congr (fun _ => .of_table (by rw [(applyItems_frame s items).1]))
      (same_applyItems hi hs.1.2 fun k => (hs.2 k).2.2.2).1 hs.2⟩
  rights s j r hr hs := ⟨sectorsFollowN_law.rights s j r hr hs.1, hs.2⟩
  restart s hs := ⟨sectorsFollowN_law.restart s hs.1, queuesInOrder_of_noNotice (queue_restart s)⟩
  admitted s i id w rd ru cap hi h0 hid hun hs := ⟨sectorsFollowN_law.admitted s i id w rd ru cap hi h0 hid hun hs.1,
    queuesInOrder_congr (fun _ => .of_record (fun _ hj => record_setRecord_other s _ hj) fun o _ _ _ ho => by
      rw [hi] at ho
      cases ho) (.of_sectors rfl rfl) hs.2⟩
  terms s i o w rd ru cap ho hs := ⟨sectorsFollowN_law.terms s i o w rd ru cap ho hs.1,
    queuesInOrder_congr (fun _ => sameMoves_setOccupant ho rfl rfl) (.of_sectors rfl rfl) hs.2⟩
  suspended s i o b ho hs := ⟨sectorsFollowN_law.suspended s i o b ho hs.1,
    queuesInOrder_congr (fun _ => sameMoves_setOccupant ho rfl rfl) (.of_sectors rfl rfl) hs.2⟩
  removed s i o ho hs := ⟨sectorsFollowN_law.removed s i o ho hs.1,
    queuesInOrder_of_withdrawn ho (fun k => by rw [queue_removed]; exact cancelMoveOf_queue ho k)
      (fun _ hj => record_removed_other s hj) (sameStates_removed s i).2 hs.2⟩
  bind s k l hk hl hs := ⟨sectorsFollowN_law.bind s k l hk hl hs.1, by
    refine queuesInOrder_congr (s := s) (fun _ => .of_table rfl) (sameQueues_of_other (k := k) rfl ?_ fun j hj => ?_) hs.2
    · by_contra hq
      have := (hs.2 k).2.2.2 hq
      rw [hk] at this
      cases this
    · rw [sector_bindTo, if_neg hj]⟩
  release s k j hj hs := ⟨sectorsFollowN_law.release s k j hj hs.1, queuesInOrder_releaseBinding k hs.2⟩
  attach s k h i o hh ho ha hfree hb hs := ⟨sectorsFollowN_law.attach s k h i o hh ho ha hfree hb hs.1,
    queuesInOrder_congr (s := s) (fun _ => .of_record (fun _ hj => record_setOccupant_other _ _ hj) fun o' _ _ _ ho' h' => by
      rw [ho] at ho'
      cases ho'
      rw [ha] at h'
      cases h') (.of_states rfl (sameStates_attachTaken s k h i o)) hs.2⟩
  detach s k h i o hl hs := ⟨sectorsFollowN_law.detach s k h i o hl hs.1,
    queuesInOrder_of_withdrawn (lookup_some hl).1
      (fun j => by rw [queue_detachTaken]; exact cancelMoveOf_queue (lookup_some hl).1 j)
      (fun _ hj => record_detachTaken_other s k h i o hj) (sameStates_detachTaken s k h i o).2 hs.2⟩
  flagged s k hs := ⟨sectorsFollowN_law.flagged s k hs.1,
    queuesInOrder_congr (s := s) (fun _ => .of_table rfl) (.of_states rfl (sameStates_flagged s k)) hs.2⟩
  reported s k entries u hfit hu hs := ⟨sectorsFollowN_law.reported s k entries u hfit hu hs.1,
    queuesInOrder_congr (fun _ => .of_map hu.generation hu.occupant fun _ _ _ _ _ _ => by
      unfold State.afterBatch
      split <;> exact ⟨rfl, rfl⟩) (.of_sectors (by rw [hu.frame]) hu.sectors) hs.2⟩
  move s k t h i o hl hm ht hq hs := ⟨sectorsFollowN_law.move s k t h i o hl hm ht hq hs.1,
    queuesInOrder_moveTaken (lookup_some hl).1 hm ht hq hs.2⟩
  readNotice s k n rest hq hs := ⟨sectorsFollowN_law.readNotice s k n rest hq hs.1, by
    intro t
    obtain ⟨hlen, hok, hnodup, hp⟩ := hs.2 t
    have hok' : ∀ m, noticeOk s t m → noticeOk (s.setQueue k rest) t m := fun m =>
      noticeOk_congr (.of_table (setQueue_table s k rest))
    rw [setQueue_queue, sector_congr (setQueue_sectors s k rest)]
    split
    · next h =>
      subst h
      rw [hq] at hlen hok hnodup hp
      exact ⟨(Nat.le_succ _).trans hlen, fun m hm => hok' m (hok m (List.mem_cons_of_mem _ hm)),
        (List.nodup_cons.1 hnodup).2, fun _ => hp (List.cons_ne_nil _ _)⟩
    · exact ⟨hlen, fun m hm => hok' m (hok m hm), hnodup, hp⟩⟩
  claim s k t h h' n i o hh ho ha hfree hb hs := ⟨sectorsFollowN_law.claim s k t h h' n i o hh ho ha hfree hb hs.1,
    queuesInOrder_of_withdrawn ho (noticeWithdrawn_claimTaken s k t h h' i o ha)
      (fun _ hj => record_claimTaken_other s k t h h' i o hj) (sameStates_claimTaken s k t h h' i o).2 hs.2⟩
  cancelMove s i o k t h n ho ha hs := ⟨sectorsFollowN_law.cancelMove s i o k t h n ho ha hs.1,
    queuesInOrder_of_withdrawn ho (cancelMoveOf_queue ho) (fun _ hj => cancelMoveOf_record_other s hj)
      (fun j => by rw [sector_congr (cancelMoveOf_sectors s i)]) hs.2⟩

/-- Settles O60: a notice goes with its record's move, and HANDOVER with each change of a queue. -/
theorem noticeAndHandoverLawsKept : Obligations.NoticeAndHandoverLawsKept := by
  refine ⟨fun s t hs ht => ?_, fun s t hs ht => ?_⟩
  · obtain ⟨⟨-, hn⟩, hq⟩ := queuesInOrder_law.kept.step ⟨⟨trivial, hs.1⟩, hs.2⟩ ht
    exact ⟨hn, hq⟩
  · obtain ⟨hn, hb, hp, hl⟩ := hs
    obtain ⟨⟨⟨-, hn'⟩, hb'⟩, hp', hl'⟩ := handoverMatches_law.kept.step ⟨⟨⟨trivial, hn⟩, hb⟩, hp, hl⟩ ht
    exact ⟨hn', hb', hp', hl'⟩

end Sys2Proof.Machine
end

section
/-! What every reference clock edge is, seen from the counts: it goes on in the frame, or it starts one. Proofs that every
step keeps the laws of the timing values. -/

namespace Sys2Proof.Machine

open Sys2Proof.Safety

/-! ### The values of the FTU (R22 to R31) -/

/-- The stored values lie in their ranges, and H and the good-run count fit the timing state. -/
structure Ftu.Stored (f : Ftu) : Prop where
  inForce : timingOk f.inForce
  pendingSet : ∀ v ∈ f.pendingSet, timingOk v
  frame : f.frame < 4096
  h : f.h ≤ 4095
  goodRun : f.goodRun ≤ 15
  interval : f.interval ≤ 1048575
  running : f.running ≤ 1048575
  glitch : f.glitch ≤ 65535
  missed : f.missed ≤ 65535
  stray : f.stray ≤ 65535
  free : f.state = .free → f.h = 0
  locked : f.state = .locked → f.h = 0 ∧ f.goodRun = 0
  holdover : f.state = .holdover → 1 ≤ f.h

theorem timingInRange_iff (s : State) :
    TimingInRange s ↔
      s.ftu.Stored ∧ (s.ftu.fresh = true → s.ftu.state = .free ∧ s.ftu.count = 0) ∧ s.ftu.count < s.ftu.frameEnd := by
  unfold TimingInRange Ftu.frameEnd
  constructor
  · rintro ⟨hi, hp, hfr, hh, hg, hint, hr, hgl, hm, hst, hfresh, hfree, hlocked, hhold⟩
    refine ⟨⟨hi, hp, hfr, hh, hg, hint, hr, hgl, hm, hst, fun h => (hfree h).1,
      fun h => ⟨(hlocked h).1, (hlocked h).2.1⟩, fun h => (hhold h).1⟩, hfresh, ?_⟩
    rcases hs : s.ftu.state with _ | _ | _
    · exact (hfree hs).2
    · exact (hlocked hs).2.2
    · exact (hhold hs).2
  · rintro ⟨hs, hfresh, hc⟩
    refine ⟨hs.inForce, hs.pendingSet, hs.frame, hs.h, hs.goodRun, hs.interval, hs.running, hs.glitch, hs.missed, hs.stray,
      hfresh, fun h => ⟨hs.free h, ?_⟩, fun h => ⟨(hs.locked h).1, (hs.locked h).2, ?_⟩, fun h => ⟨hs.holdover h, ?_⟩⟩
    · rwa [if_neg (by rw [h]; decide)] at hc
    · rwa [if_pos h] at hc
    · rwa [if_neg (by rw [h]; decide)] at hc

theorem satSucc_le (m n : Nat) : satSucc m n ≤ m := Nat.min_le_right _ _

section Stored

variable {f : Ftu} (h : f.Stored)

include h

theorem Ftu.Stored.measure (level pulse : Bool) : (f.measure level pulse).Stored := by
  unfold Ftu.measure
  dsimp only
  split
  · refine { h with interval := ?_, running := Nat.zero_le _ }
    show (if f.pulseSeen = true then min (f.running + 1) maxInterval else f.interval) ≤ 1048575
    split
    · exact Nat.min_le_right _ _
    · exact h.interval
  · exact { h with running := Nat.min_le_right _ _ }

theorem Ftu.Stored.counted (c : Nat) : ({ f with count := c } : Ftu).Stored := { h with }

theorem Ftu.Stored.raiseH : f.raiseH.Stored := by
  unfold Ftu.raiseH
  split
  · next hst => exact { h with
      h := satSucc_le 4095 f.h
      free := fun hf => absurd (hf.symm.trans hst) (by decide)
      locked := fun hl => absurd (hl.symm.trans hst) (by decide)
      holdover := fun _ => by
        have := h.holdover hst
        show 1 ≤ min (f.h + 1) 4095
        omega }
  · exact h
  · exact h

theorem Ftu.Stored.relocked : (f.enter .locked 0).Stored :=
  { h with
    h := Nat.zero_le _
    goodRun := Nat.zero_le _
    free := fun hf => (nomatch hf)
    locked := fun _ => ⟨rfl, rfl⟩
    holdover := fun hf => (nomatch hf) }

theorem Ftu.Stored.expired : ({ f.enter .holdover 1 with missed := satSucc maxCounter f.missed } : Ftu).Stored :=
  { h with
    h := show 1 ≤ 4095 by decide
    goodRun := Nat.zero_le _
    missed := satSucc_le _ _
    free := fun hf => (nomatch hf)
    locked := fun hf => (nomatch hf)
    holdover := fun _ => le_rfl }

theorem Ftu.Stored.glitched : ({ f with glitch := satSucc maxCounter f.glitch } : Ftu).Stored :=
  { h with glitch := satSucc_le _ _ }

theorem Ftu.Stored.strayed : ({ f with stray := satSucc maxCounter f.stray, goodRun := 0 } : Ftu).Stored :=
  { h with
    stray := satSucc_le _ _
    goodRun := Nat.zero_le _
    locked := fun hl => ⟨(h.locked hl).1, rfl⟩ }

theorem Ftu.Stored.ran (hst : f.state ≠ .locked) (hg : f.goodRun + 1 ≤ 15) :
    ({ f with goodRun := f.goodRun + 1 } : Ftu).Stored :=
  { h with
    goodRun := hg
    locked := fun hl => absurd hl hst }

theorem Ftu.Stored.startFrame : f.startFrame.Stored :=
  { h with
    inForce := by
      rcases Option.eq_none_or_eq_some f.pendingSet with hp | ⟨v, hp⟩
      · rw [Ftu.startFrame, hp]; exact h.inForce
      · rw [Ftu.startFrame, hp]; exact h.pendingSet v hp
    pendingSet := fun v hv => (nomatch hv)
    frame := by
      show f.nextFrame < 4096
      unfold Ftu.nextFrame
      split
      · exact h.frame
      · exact Nat.mod_lt _ (by decide) }

end Stored

/-- A frame that has just started is in range. -/
theorem timingInRange_of_start {s : State} (hs : s.ftu.Stored) (hfresh : s.ftu.fresh = false)
    (hc : s.ftu.count = 0) : TimingInRange s := by
  refine (timingInRange_iff s).2 ⟨hs, fun h => absurd (hfresh.symm.trans h) (by decide), ?_⟩
  have := hs.inForce.1.1
  have := period_le_frameEnd s.ftu
  omega

/-! ### What every edge is -/

/-- The counts, the sets and the frame number of an FTU are those of another. -/
structure SameClock (f g : Ftu) : Prop where
  fresh : g.fresh = f.fresh
  count : g.count = f.count
  frame : g.frame = f.frame
  inForce : g.inForce = f.inForce
  pendingSet : g.pendingSet = f.pendingSet

/-- `t` is `s` but for what judging a pulse may change: the timing state, the measurements, the counters and causes. -/
structure Retimed (s t : State) : Prop where
  frame : t = { s with ftu := t.ftu, ports := t.ports }
  clock : SameClock s.ftu t.ftu
  handover : ∀ l, (t.port l).causes.handover = (s.port l).causes.handover

theorem Retimed.of_ftu {s : State} {f : Ftu} (h : SameClock s.ftu f) : Retimed s { s with ftu := f } :=
  ⟨rfl, h, fun _ => rfl⟩

theorem Retimed.refl (s : State) : Retimed s s := ⟨rfl, ⟨rfl, rfl, rfl, rfl, rfl⟩, fun _ => rfl⟩

theorem Retimed.trans {s t u : State} (h : Retimed s t) (h' : Retimed t u) : Retimed s u where
  frame := by
    have h2 := h'.frame
    rw [h.frame] at h2
    exact h2
  clock := ⟨h'.clock.fresh.trans h.clock.fresh, h'.clock.count.trans h.clock.count, h'.clock.frame.trans h.clock.frame,
    h'.clock.inForce.trans h.clock.inForce, h'.clock.pendingSet.trans h.clock.pendingSet⟩
  handover l := (h'.handover l).trans (h.handover l)

theorem retimed_relock (s : State) : Retimed s s.relock :=
  ⟨rfl, ⟨rfl, rfl, rfl, rfl, rfl⟩, fun l => by rw [relock_port]⟩

theorem retimed_expire (s : State) : Retimed s s.expire :=
  ⟨rfl, ⟨rfl, rfl, rfl, rfl, rfl⟩, fun l => by rw [expire_port]⟩

theorem retimed_goodPulse (s : State) (k : Nat) : Retimed s (s.goodPulse k) := by
  unfold State.goodPulse
  split
  · exact retimed_relock s
  · exact .of_ftu ⟨rfl, rfl, rfl, rfl, rfl⟩

theorem measure_clock (f : Ftu) (level pulse : Bool) :
    SameClock f (f.measure level pulse) ∧ (f.measure level pulse).state = f.state := by
  unfold Ftu.measure
  dsimp only
  split <;> exact ⟨⟨rfl, rfl, rfl, rfl, rfl⟩, rfl⟩

theorem raiseH_clock (f : Ftu) : SameClock f f.raiseH ∧ f.raiseH.state = f.state ∧ f.raiseH.goodRun = f.goodRun := by
  unfold Ftu.raiseH
  split <;> exact ⟨⟨rfl, rfl, rfl, rfl, rfl⟩, rfl, rfl⟩

/-- The three kinds of edge: the frame goes on; it ends on the FTU's own count, or at the first edge; or it is ended, the
outstanding boundaries first. A pulse is judged before or after. -/
inductive EdgeShape (s : State) : State → Prop
  | goesOn {v : State} (hv : Retimed s.ageBuild v) (hstored : s.ftu.Stored → v.ftu.Stored)
      (hfresh : s.ftu.state = .locked ∨ s.ftu.fresh = false) (hc : s.ftu.count + 1 < v.ftu.frameEnd) :
      EdgeShape s v.advance
  | ownStart {v t : State} (hv : Retimed s.ageBuild v) (hst : s.ftu.state ≠ .locked)
      (hc : s.ftu.fresh = true ∨ s.ftu.inForce.p ≤ s.ftu.count + 1) (ht : Retimed v.startFrame t)
      (hstored : s.ftu.Stored → t.ftu.Stored) : EdgeShape s t
  | ended {v w : State} (hv : Retimed s.ageBuild v) (hfresh : s.ftu.state = .locked ∨ s.ftu.fresh = false)
      (hw : Retimed v.outstanding w) (hstored : s.ftu.Stored → w.ftu.Stored) : EdgeShape s w.startFrame

/-- The good-run count of a good pulse that does not relock stays within 15. -/
theorem stored_goodPulse {s : State} {k : Nat} (hs : s.ftu.Stored) (hst : s.ftu.state ≠ .locked) (hk : k ≤ 15) :
    (s.goodPulse k).ftu.Stored := by
  unfold State.goodPulse
  split
  · exact hs.relocked
  · exact hs.ran hst (by omega)

theorem stored_outstanding {s : State} (h : s.ftu.Stored) : s.outstanding.ftu.Stored := by
  rwa [outstanding_ftu]

theorem stored_ownStart {s : State} (h : s.ftu.Stored) :
    ({ s with ftu := s.ftu.raiseH } : State).startFrame.ftu.Stored := by
  rw [startFrame_ftu]
  exact h.raiseH.startFrame

theorem frameEnd_eq_period {f : Ftu} (h : f.state ≠ .locked) : f.frameEnd = f.inForce.p := if_neg h

theorem edgeShape_locked {s v : State} (hv : Retimed s.ageBuild v) (hstate : v.ftu.state = s.ftu.state)
    (hstored : s.ftu.Stored → v.ftu.Stored) (hst : s.ftu.state = .locked) (pulse : Bool) :
    EdgeShape s (v.edgeLocked pulse) := by
  have hcount : v.ftu.count = s.ftu.count := by rw [hv.clock.count, ageBuild_ftu]
  have hend : v.ftu.frameEnd = v.ftu.inForce.p + v.ftu.inForce.t := if_pos (hstate.trans hst)
  unfold State.edgeLocked
  dsimp only
  split
  · split
    · next hlt =>
      refine .goesOn (hv.trans (.of_ftu ⟨rfl, rfl, rfl, rfl, rfl⟩)) (fun h => (hstored h).glitched) (.inl hst) ?_
      show s.ftu.count + 1 < v.ftu.frameEnd
      omega
    · exact .ended hv (.inl hst) (.refl _) fun h => stored_outstanding (hstored h)
  · split
    · exact .ended hv (.inl hst) (retimed_expire _) fun h => (stored_outstanding (hstored h)).expired
    · exact .goesOn hv hstored (.inl hst) (by omega)

theorem edgeShape_free {s v : State} (hv : Retimed s.ageBuild v) (hstate : v.ftu.state = s.ftu.state)
    (hstored : s.ftu.Stored → v.ftu.Stored) (hst : s.ftu.state ≠ .locked) (pulse : Bool) :
    EdgeShape s (v.edgeFree pulse) := by
  have hcount : v.ftu.count = s.ftu.count := by rw [hv.clock.count, ageBuild_ftu]
  have hinForce : v.ftu.inForce = s.ftu.inForce := by rw [hv.clock.inForce, ageBuild_ftu]
  have hfresh : v.ftu.fresh = s.ftu.fresh := by rw [hv.clock.fresh, ageBuild_ftu]
  have hvst : v.ftu.state ≠ .locked := hstate ▸ hst
  have hend := frameEnd_eq_period hvst
  obtain ⟨hclock, hrstate, -⟩ := raiseH_clock v.ftu
  unfold State.edgeFree
  dsimp only
  split
  · next hc =>
    rw [hfresh, hinForce, hcount] at hc
    have hr : Retimed s.ageBuild { v with ftu := v.ftu.raiseH } := hv.trans (.of_ftu hclock)
    split
    · refine .ownStart hr hst hc (retimed_goodPulse _ _) fun h => ?_
      refine stored_goodPulse (stored_ownStart (hstored h)) ?_ (by rw [hinForce]; exact h.inForce.2.2.2)
      rw [startFrame_ftu]
      exact fun hl => hvst (hrstate.symm.trans hl)
    · exact .ownStart hr hst hc (.refl _) fun h => stored_ownStart (hstored h)
  · next hc =>
    obtain ⟨hf, hlt⟩ := not_or.1 hc
    have hf : s.ftu.fresh = false := by rw [← hfresh]; simpa using hf
    have hlt : s.ftu.count + 1 < v.ftu.frameEnd := by omega
    split
    · split
      · exact .ended hv (.inr hf) (retimed_relock _) fun h => (stored_outstanding (hstored h)).relocked
      · split
        · refine .goesOn (hv.trans (retimed_goodPulse _ _)) (fun h =>
            stored_goodPulse (hstored h) hvst (by rw [hinForce]; exact h.inForce.2.2.2)) (.inr hf) ?_
          have hg := (retimed_goodPulse v v.ftu.inForce.k).clock.inForce
          have := period_le_frameEnd (v.goodPulse v.ftu.inForce.k).ftu
          rw [hg] at this
          omega
        · exact .goesOn (hv.trans (.of_ftu ⟨rfl, rfl, rfl, rfl, rfl⟩)) (fun h => (hstored h).strayed) (.inr hf) hlt
    · exact .goesOn hv hstored (.inr hf) hlt

/-- Every edge has one of the three shapes. -/
theorem edge_shape (s : State) (level : Bool) : EdgeShape s (s.edge level) := by
  generalize hpulse : (level && !s.ftu.sampled) = pulse
  obtain ⟨hclock, hstate⟩ := measure_clock s.ftu level pulse
  have hv : Retimed s.ageBuild { s.ageBuild with ftu := s.ftu.measure level pulse } :=
    .of_ftu (by rw [ageBuild_ftu]; exact hclock)
  have hstored : s.ftu.Stored → (s.ftu.measure level pulse).Stored := fun h => h.measure _ _
  unfold State.edge
  simp only [ageBuild_ftu, hpulse]
  split
  · next hs => exact edgeShape_locked hv hstate hstored (hstate.symm.trans hs) _
  · next hs => exact edgeShape_free hv hstate hstored (fun hl => by rw [hstate, hl] at hs; cases hs) _
  · next hs => exact edgeShape_free hv hstate hstored (fun hl => by rw [hstate, hl] at hs; cases hs) _

/-! ### The timing laws (R22 to R31) -/

theorem timingInRange_edge {s : State} (level : Bool) (hs : TimingInRange s) : TimingInRange (s.edge level) := by
  obtain ⟨hstored, hfresh, -⟩ := (timingInRange_iff s).1 hs
  have hnew : s.ftu.state = .locked ∨ s.ftu.fresh = false → s.ftu.fresh = false := by
    rintro (h | h)
    · by_contra hf
      have := (hfresh (by simpa using hf)).1
      rw [h] at this
      cases this
    · exact h
  generalize ht : s.edge level = t
  have hshape := ht ▸ edge_shape s level
  cases hshape with
  | @goesOn v hv hst hf hc =>
    refine (timingInRange_iff _).2 ?_
    rw [advance_ftu]
    refine ⟨(hst hstored).counted _, fun h => ?_, ?_⟩
    · have h : v.ftu.fresh = true := h
      rw [hv.clock.fresh, ageBuild_ftu, hnew hf] at h
      cases h
    · have hcount : v.ftu.count = s.ftu.count := by rw [hv.clock.count, ageBuild_ftu]
      rw [← hcount] at hc
      exact hc
  | ownStart hv hst hc ht hstored' =>
    refine timingInRange_of_start (hstored' hstored) ?_ ?_
    · rw [ht.clock.fresh, startFrame_ftu]; rfl
    · rw [ht.clock.count, startFrame_ftu]; rfl
  | ended hv hf hw hstored' =>
    refine timingInRange_of_start ?_ ?_ ?_
    · rw [startFrame_ftu]; exact (hstored' hstored).startFrame
    · rw [startFrame_ftu]; rfl
    · rw [startFrame_ftu]; rfl

theorem timingInRange_congr {s t : State} (h : t.ftu = s.ftu) (hs : TimingInRange s) : TimingInRange t := by
  unfold TimingInRange at *
  rwa [h]

theorem timingOk_clampTiming (p t k : Nat) : timingOk (clampTiming p t k) :=
  ⟨clampTo_mem (by decide) p, (clampTo_mem (by decide) t).2, clampTo_mem (by decide) k⟩

theorem timingInRange_reset (selected : Link → Bool) (powerLow : Bool) (q : List Instr) :
    TimingInRange (resetWith selected powerLow q) := by
  refine timingInRange_congr (s := State.reset) rfl ?_
  unfold TimingInRange timingOk
  decide

/-- A request changes the timing values in the pending set alone, and clamps what it puts there. -/
theorem timingInRange_taken {l : Link} {s : State} {kind : ReqKind} {u : State} (hu : Taken l s kind u)
    (hs : TimingInRange s) : TimingInRange u := by
  by_cases hk : kind = .setTiming
  · subst hk
    cases hu with
    | same => exact hs
    | ownPort => exact hs
    | setTiming p t k =>
      obtain ⟨hstored, hfresh, hc⟩ := (timingInRange_iff s).1 hs
      exact (timingInRange_iff _).2
        ⟨{ hstored with pendingSet := fun v hv => by cases hv; exact timingOk_clampTiming p t k }, hfresh, hc⟩
  · exact timingInRange_congr (hu.leavesAlone.ftu_of_ne hk) hs

theorem timingInRange_kept : Kept TimingInRange where
  pending _ _ hs := hs
  powerLow _ _ hs := hs
  reset := timingInRange_reset
  ports _ _ _ hs := hs
  edge _ level hs := timingInRange_edge level hs
  complete s hs := timingInRange_congr (complete_ftu s) hs
  taken := timingInRange_taken

/-- Settles O55: each edge has one of three shapes, and each keeps the ranges. -/
theorem timingLawsKept : Obligations.TimingLawsKept := fun _ _ hs ht => timingInRange_kept.step hs ht

end Sys2Proof.Machine
end

section
/-! Proofs that every step keeps the demand window, the build in flight and the plan frames with the running frame. -/

namespace Sys2Proof.Machine

open Sys2Proof.Safety

/-! ### The window and the build over several boundaries (R72, R85) -/

theorem slotEvent_windowOpen (s : State) (k : Nat) :
    (s.slotEvent k).windowOpen =
      if k = s.policy.window.o then true else if k = s.policy.window.w then false else s.windowOpen := by
  rcases slotEvent_cases s k with ⟨ho, he⟩ | ⟨ho, hw, he⟩ | ⟨ho, hw, he⟩ <;> rw [he]
  · rw [if_pos ho]
  · rw [if_neg ho, if_pos hw, startBuild_windowOpen]
  · rw [if_neg ho, if_neg hw]
    rfl

/-- Over rising slots the window is closed once W is past, and else open once O is. -/
theorem slotEvents_windowOpen {ks : List Nat} (hks : ks.Pairwise (· < ·)) (s : State)
    (h : s.policy.window.o < s.policy.window.w) :
    (s.slotEvents ks).windowOpen =
      if s.policy.window.w ∈ ks then false else if s.policy.window.o ∈ ks then true else s.windowOpen := by
  induction ks using List.reverseRecOn with
  | nil => simp [State.slotEvents]
  | append_singleton ks k ih =>
    obtain ⟨hks, -, hlt⟩ := List.pairwise_append.1 hks
    have hfold : s.slotEvents (ks ++ [k]) = (s.slotEvents ks).slotEvent k := by
      simp [State.slotEvents, List.foldl_append]
    rw [hfold, slotEvent_windowOpen, slotEvents_policy, ih hks]
    simp only [List.mem_append, List.mem_singleton]
    by_cases ho : k = s.policy.window.o
    · have hw : s.policy.window.w ∉ ks := fun hm => by
        have := hlt _ hm k (List.mem_singleton.2 rfl)
        omega
      have hne : s.policy.window.w ≠ k := by omega
      simp [ho, hw, ho ▸ hne]
    · by_cases hw : k = s.policy.window.w
      · simp [hw]
        omega
      · simp [ho, hw, Ne.symm ho, Ne.symm hw]

/-- A boundary starts a build or leaves the one in flight alone. -/
theorem slotEvent_builder (s : State) (k : Nat) :
    (k = s.policy.window.w ∧ (s.slotEvent k).builder =
      some { snapshot := snapshotOf (({ s.mapPorts (fun _ p => p.countSlot) with windowOpen := false } : State).presence)
             work := Work.start (snapshotOf (({ s.mapPorts (fun _ p => p.countSlot) with
               windowOpen := false } : State).presence))
             age := 0 }) ∨
    (s.slotEvent k).builder = s.builder := by
  rcases slotEvent_cases s k with ⟨ho, he⟩ | ⟨ho, hw, he⟩ | ⟨ho, hw, he⟩ <;> rw [he]
  · exact .inr rfl
  · exact .inl ⟨hw, startBuild_builder _⟩
  · exact .inr rfl

theorem slotEvents_builder (ks : List Nat) (s : State) :
    (s.policy.window.w ∈ ks ∧ ∃ b, (s.slotEvents ks).builder = some b ∧ b.age = 0) ∨
    (s.slotEvents ks).builder = s.builder := by
  induction ks generalizing s with
  | nil => exact .inr rfl
  | cons k ks ih =>
    have hstep : s.slotEvents (k :: ks) = (s.slotEvent k).slotEvents ks := rfl
    rcases ih (s.slotEvent k) with ⟨hw, hb⟩ | hb
    · rw [slotEvent_policy] at hw
      exact .inl ⟨List.mem_cons_of_mem _ hw, hb⟩
    · rw [hstep, hb]
      rcases slotEvent_builder s k with ⟨hk, hb⟩ | hb
      · exact .inl ⟨hk ▸ List.mem_cons_self, _, hb, rfl⟩
      · exact .inr hb

/-! ### The window pairs -/

/-- The pair in force and the pending one are as SET POLICY lets them be (R8). -/
def Policy.windowsOk (p : Policy) : Prop := windowOk p.window ∧ ∀ v ∈ p.pendingWindow, windowOk v

theorem Policy.windowsOk.applyWindow {p : Policy} (h : p.windowsOk) : p.applyWindow.windowsOk := by
  refine ⟨?_, fun v hv => (nomatch hv)⟩
  show windowOk (p.pendingWindow.getD p.window)
  rcases Option.eq_none_or_eq_some p.pendingWindow with hp | ⟨v, hp⟩
  · rw [hp]; exact h.1
  · rw [hp]; exact h.2 v hp

theorem windowsOk_reset : Policy.reset.windowsOk := by
  refine ⟨by unfold windowOk; decide, fun v hv => (nomatch hv)⟩

theorem windowsOk_applyItem {s u : State} {item : PolicyItem} (hc : checkItem s item = none) (hu : u.policy.windowsOk) :
    (applyItem u item).state.policy.windowsOk := by
  cases item with
  | n v =>
    show (u.setN _).policy.windowsOk
    rw [setN_policy]
    exact hu
  | window o w =>
    refine ⟨hu.1, fun v hv => ?_⟩
    cases hv
    by_contra hne
    rw [checkItem, if_neg (c := o < w ∧ w ≤ 15) hne] at hc
    cases hc
  | _ => exact hu

theorem windowsOk_law : Law fun s => s.policy.windowsOk :=
  .of_policy (fun h hs => by rw [h]; exact hs) (fun _ hs => hs.applyWindow) (fun _ _ _ => windowsOk_reset)
    (fun _ _ hi hs => applyItems_keeps (P := fun u => u.policy.windowsOk) (fun _ _ => windowsOk_applyItem) hi hs)
    (fun _ _ _ _ hs => hs)

/-- No item puts a window pair in force. -/
theorem applyItem_window (s : State) (item : PolicyItem) : (applyItem s item).state.policy.window = s.policy.window := by
  cases item with
  | n v =>
    show (s.setN _).policy.window = _
    rw [setN_policy]
  | _ => rfl

/-- No request puts a window pair in force. -/
theorem window_of_taken {l : Link} {s : State} {kind : ReqKind} {u : State} (hu : Taken l s kind u) :
    u.policy.window = s.policy.window := by
  by_cases hk : kind ∈ [ReqKind.setPolicy, .setBarMask, .pinSector, .setLinkRights]
  · cases hu with
    | setPolicy items hi =>
      exact applyItems_keeps (P := fun v => v.policy.window = s.policy.window)
        (fun v item _ hv => (applyItem_window v item).trans hv) hi rfl
    | pinEnds k pin j => rw [releaseBinding_policy]; rfl
    | rightsRelease j r k => rw [releaseBinding_policy]
    | same | ownPort | setBarMask | pin | rights => rfl
    | _ => simp at hk
  · rw [hu.leavesAlone.policy hk]

/-! ### The window follows the slots (R72) -/

theorem slotCount_zero (p : Nat) : slotCount p 0 = 0 := by simp [slotCount]

theorem slotCount_eq_zero_iff {p k : Nat} (hp : 16 ≤ p) : slotCount p k = 0 ↔ k = 0 := by
  refine ⟨fun h => ?_, fun h => by rw [h, slotCount_zero]⟩
  by_contra hk
  have := slotCount_strictMono hp (Nat.pos_of_ne_zero hk)
  omega

/-- The window is open from slot O to slot W of the frame that runs. -/
def WindowFits (s : State) : Prop :=
  s.windowOpen = true ↔
    s.ftu.fresh = false ∧ slotCount s.ftu.inForce.p s.policy.window.o ≤ s.ftu.count ∧
      s.ftu.count < slotCount s.ftu.inForce.p s.policy.window.w

theorem windowFollowsSlots_iff (s : State) :
    WindowFollowsSlots s ↔ TimingInRange s ∧ s.policy.windowsOk ∧ WindowFits s := by
  unfold WindowFollowsSlots Policy.windowsOk WindowFits
  rw [and_assoc]

theorem WindowFits.congr {s t : State} (hs : WindowFits s) (hc : SameClock s.ftu t.ftu) (hp : t.policy = s.policy)
    (hw : t.windowOpen = s.windowOpen) : WindowFits t := by
  unfold WindowFits
  rw [hc.fresh, hc.count, hc.inForce, hp, hw]
  exact hs

theorem period_ge {s : State} (hs : TimingInRange s) : 16 ≤ s.ftu.inForce.p := by
  have := ((timingInRange_iff s).1 hs).1.inForce.1.1
  omega

/-- What a frame start leaves of the window: it is open exactly when O is 0. -/
theorem windowFits_startFrame {s : State} (hp : 16 ≤ s.startFrame.ftu.inForce.p) (hw : s.policy.windowsOk)
    (hc : s.windowOpen = false) : WindowFits s.startFrame := by
  have hw' := hw.applyWindow
  have hf : s.startFrame.ftu.fresh = false := by rw [startFrame_ftu]; rfl
  have hcount : s.startFrame.ftu.count = 0 := by rw [startFrame_ftu]; rfl
  have hopen : s.startFrame.windowOpen = if s.policy.applyWindow.window.o = 0 then true else false := by
    have hplan : s.planStarted.countdown.policy = s.policy.applyWindow := by
      rw [countdown_policy, State.planStarted, planFrameStart_policy]
      rfl
    have hclosed : s.planStarted.countdown.windowOpen = false := by
      rw [countdown_windowOpen, State.planStarted, planFrameStart_windowOpen]
      exact hc
    rw [startFrame_eq, slotEvent_windowOpen, hplan, hclosed]
    simp only [eq_comm (a := (0 : Nat)), ite_self]
  have hlt := slotCount_strictMono hp hw'.1.1
  have hz := slotCount_eq_zero_iff (k := s.policy.applyWindow.window.o) hp
  rw [WindowFits, startFrame_policy, hopen, hcount, hf]
  generalize s.startFrame.ftu.inForce.p = p at *
  split
  · next h => exact ⟨fun _ => ⟨rfl, (hz.2 h).le, by omega⟩, fun _ => rfl⟩
  · next h => exact ⟨fun hn => (nomatch hn), fun hn => absurd (hz.1 (Nat.le_zero.1 hn.2.1)) h⟩

/-- After the boundaries that are outstanding the window is closed. -/
theorem outstanding_closed {s : State} (hp : 16 ≤ s.ftu.inForce.p) (hw : s.policy.windowsOk) (hs : WindowFits s) :
    s.outstanding.windowOpen = false := by
  have hlt := slotCount_strictMono hp hw.1.1
  rw [State.outstanding, slotsDue_none, slotEvents_windowOpen (slotsAhead_pairwise _) s hw.1.1]
  simp only [mem_slotsAhead]
  split
  · rfl
  · next hno =>
    have hpast : ¬s.ftu.count < slotCount s.ftu.inForce.p s.policy.window.w := fun h =>
      hno ⟨⟨Nat.zero_lt_of_lt hw.1.1, hw.1.2⟩, h⟩
    rw [if_neg, Bool.eq_false_iff]
    · exact fun h => hpast (hs.1 h).2.2
    · rintro ⟨-, h⟩
      exact hpast (h.trans hlt)

/-- The boundary of the next count opens or closes the window. -/
theorem windowFits_advance {s : State} (hp : 16 ≤ s.ftu.inForce.p) (hw : s.policy.windowsOk) (hf : s.ftu.fresh = false)
    (hs : WindowFits s) : WindowFits s.advance := by
  have hlt := slotCount_strictMono hp hw.1.1
  have hdue : (slotsDue s.ftu.inForce.p s.ftu.count (some (s.ftu.count + 1))).Pairwise (· < ·) :=
    (List.pairwise_lt_range').filter _
  have hadvance := slotEvents_windowOpen hdue { s with ftu := { s.ftu with count := s.ftu.count + 1 } } hw.1.1
  simp only [mem_slotsDue_some] at hadvance
  rw [WindowFits, advance_policy, advance_ftu, show s.advance.windowOpen = _ from hadvance, hf]
  have ho : slotCount s.ftu.inForce.p s.policy.window.o = s.ftu.count + 1 → 1 ≤ s.policy.window.o := fun h => by
    by_contra hz
    rw [Nat.lt_one_iff.1 (Nat.not_le.1 hz), slotCount_zero] at h
    omega
  obtain ⟨hw1, hw2⟩ := hw.1
  split
  · simp only [Bool.false_eq_true, true_and, false_iff]
    omega
  · split
    · simp only [true_and, true_iff]
      omega
    · rw [show s.windowOpen = true ↔ _ from hs, hf]
      simp only [true_and]
      omega

/-- In FREE and HOLDOVER the window is closed at the edge on which the frame ends, and before the first frame. -/
theorem closed_of_ownStart {s : State} (hp : 16 ≤ s.ftu.inForce.p) (hw : s.policy.windowsOk) (hs : WindowFits s)
    (hc : s.ftu.fresh = true ∨ s.ftu.inForce.p ≤ s.ftu.count + 1) : s.windowOpen = false := by
  have hlt := slotCount_lt (p := s.ftu.inForce.p) (by omega) hw.1.2
  rw [Bool.eq_false_iff]
  intro h
  obtain ⟨hf, -, hcount⟩ := hs.1 h
  rcases hc with hc | hc
  · rw [hf] at hc
    cases hc
  · omega

/-- An edge of a frame that goes on is not the first. -/
theorem fresh_eq_false {s : State} (hs : TimingInRange s) (h : s.ftu.state = .locked ∨ s.ftu.fresh = false) :
    s.ftu.fresh = false := by
  rcases h with h | h
  · by_contra hf
    have := (((timingInRange_iff s).1 hs).2.1 (by simpa using hf)).1
    rw [h] at this
    cases this
  · exact h

theorem Retimed.policy {s t : State} (h : Retimed s t) : t.policy = s.policy := by rw [h.frame]

theorem Retimed.windowOpen {s t : State} (h : Retimed s t) : t.windowOpen = s.windowOpen := by rw [h.frame]

theorem Retimed.builder {s t : State} (h : Retimed s t) : t.builder = s.builder := by rw [h.frame]

theorem windowFollowsSlots_edge {s : State} (level : Bool) (hs : WindowFollowsSlots s) :
    WindowFollowsSlots (s.edge level) := by
  obtain ⟨ht, hwin, hfits⟩ := (windowFollowsSlots_iff s).1 hs
  have ht' := timingInRange_edge level ht
  have hp' := period_ge ht'
  have hp : 16 ≤ s.ageBuild.ftu.inForce.p := by rw [ageBuild_ftu]; exact period_ge ht
  have hwina : s.ageBuild.policy.windowsOk := by rwa [ageBuild_policy]
  have hfits : WindowFits s.ageBuild :=
    hfits.congr (by rw [ageBuild_ftu]; exact ⟨rfl, rfl, rfl, rfl, rfl⟩) (ageBuild_policy s) (ageBuild_windowOpen s)
  refine (windowFollowsSlots_iff _).2 ⟨ht', ?_⟩
  generalize he : s.edge level = t at hp' ⊢
  have hshape := he ▸ edge_shape s level
  cases hshape with
  | @goesOn v hv hst hf hc =>
    have hvf : v.ftu.fresh = false := by rw [hv.clock.fresh, ageBuild_ftu, fresh_eq_false ht hf]
    have hvw : v.policy.windowsOk := by rwa [hv.policy]
    refine ⟨by rwa [advance_policy], ?_⟩
    exact windowFits_advance (by rwa [hv.clock.inForce]) hvw hvf (hfits.congr hv.clock hv.policy hv.windowOpen)
  | @ownStart v t hv hst hc hret hstored =>
    have hvw : v.policy.windowsOk := by rwa [hv.policy]
    have hclosed : v.windowOpen = false := by
      rw [hv.windowOpen]
      exact closed_of_ownStart hp hwina hfits (by rwa [ageBuild_ftu])
    rw [hret.clock.inForce] at hp'
    exact ⟨by rw [hret.policy, startFrame_policy]; exact hvw.applyWindow,
      (windowFits_startFrame hp' hvw hclosed).congr hret.clock hret.policy hret.windowOpen⟩
  | @ended v w hv hf hret hstored =>
    have hvw : v.policy.windowsOk := by rwa [hv.policy]
    have hwp : w.policy = v.policy := by rw [hret.policy, outstanding_policy]
    have hclosed : w.windowOpen = false := by
      rw [hret.windowOpen]
      exact outstanding_closed (by rwa [hv.clock.inForce]) hvw (hfits.congr hv.clock hv.policy hv.windowOpen)
    refine ⟨?_, windowFits_startFrame hp' (by rwa [hwp]) hclosed⟩
    rw [startFrame_policy, hwp]
    exact hvw.applyWindow

theorem windowFits_taken {l : Link} {s : State} {kind : ReqKind} {u : State} (hu : Taken l s kind u) (hs : WindowFits s) :
    WindowFits u := by
  have h := hu.leavesAlone
  unfold WindowFits
  rw [window_of_taken hu, h.windowOpen, h.ftu]
  exact hs

theorem windowFollowsSlots_kept : Kept WindowFollowsSlots where
  pending _ _ hs := hs
  powerLow _ _ hs := hs
  reset selected powerLow q := (windowFollowsSlots_iff _).2 ⟨timingInRange_reset selected powerLow q, windowsOk_reset, by
    unfold WindowFits
    simp [resetWith, State.reset, Ftu.reset]⟩
  ports _ _ _ hs := hs
  edge _ level hs := windowFollowsSlots_edge level hs
  complete s hs := by
    obtain ⟨ht, hw, hfits⟩ := (windowFollowsSlots_iff s).1 hs
    exact (windowFollowsSlots_iff _).2 ⟨timingInRange_congr (complete_ftu s) ht, by rwa [complete_policy],
      hfits.congr (by rw [complete_ftu]; exact ⟨rfl, rfl, rfl, rfl, rfl⟩) (complete_policy s) (complete_windowOpen s)⟩
  taken hu hs := by
    obtain ⟨ht, hw, hfits⟩ := (windowFollowsSlots_iff _).1 hs
    exact (windowFollowsSlots_iff _).2 ⟨timingInRange_taken hu ht, windowsOk_law.kept.taken hu hw, windowFits_taken hu hfits⟩

/-! ### The build follows the window (R85, R102) -/

/-- A build in flight began at the slot-W boundary of the frame that runs, and has had at most 4,096 edges. -/
def BuildFits (s : State) : Prop :=
  ∀ b ∈ s.builder,
    s.ftu.fresh = false ∧ slotCount s.ftu.inForce.p s.policy.window.w + b.age = s.ftu.count ∧ b.age ≤ buildLimit

theorem buildFollowsWindow_iff (s : State) :
    BuildFollowsWindow s ↔ TimingInRange s ∧ s.policy.windowsOk ∧ BuildFits s := by
  unfold BuildFollowsWindow Policy.windowsOk BuildFits
  rw [and_assoc]

theorem buildFits_of_none {s : State} (h : s.builder = none) : BuildFits s := fun b hb => by
  rw [h] at hb
  cases hb

theorem BuildFits.congr {s t : State} (hs : BuildFits s) (hc : SameClock s.ftu t.ftu) (hp : t.policy = s.policy)
    (hb : t.builder = s.builder) : BuildFits t := by
  unfold BuildFits
  rw [hc.fresh, hc.count, hc.inForce, hp, hb]
  exact hs

/-- The build in flight after the ageing of an edge is one edge older, and still in its time. -/
theorem ageBuild_builder {s : State} {b : Build} (hb : s.ageBuild.builder = some b) :
    ∃ c, s.builder = some c ∧ b = { c with age := c.age + 1 } ∧ b.age ≤ buildLimit := by
  rw [ageBuild_eq_ageBy] at hb
  rcases Option.eq_none_or_eq_some s.builder with h | ⟨c, h⟩
  · rw [ageBy_of_none h, h] at hb
    cases hb
  · rcases Nat.lt_or_ge buildLimit (c.age + 1) with hlt | hge
    · rw [ageBy_of_late h hlt, complete_builder] at hb
      cases hb
    · rw [ageBy_of_time h hge] at hb
      cases hb
      exact ⟨c, h, rfl, hge⟩

theorem buildFollowsWindow_edge {s : State} (level : Bool) (hs : BuildFollowsWindow s) :
    BuildFollowsWindow (s.edge level) := by
  obtain ⟨ht, hwin, hfits⟩ := (buildFollowsWindow_iff s).1 hs
  have hwina : s.ageBuild.policy.windowsOk := by rwa [ageBuild_policy]
  refine (buildFollowsWindow_iff _).2 ⟨timingInRange_edge level ht, ?_⟩
  generalize he : s.edge level = t
  have hshape := he ▸ edge_shape s level
  cases hshape with
  | @goesOn v hv hst hf hc =>
    have hfresh := fresh_eq_false ht hf
    have hvw : v.policy.windowsOk := by rwa [hv.policy]
    refine ⟨by rwa [advance_policy], fun b hb => ?_⟩
    rw [advance_policy, advance_ftu]
    refine ⟨by rw [← hfresh]; exact (hv.clock.fresh.trans (by rw [ageBuild_ftu])), ?_⟩
    rcases slotEvents_builder (slotsDue v.ftu.inForce.p v.ftu.count (some (v.ftu.count + 1)))
      { v with ftu := { v.ftu with count := v.ftu.count + 1 } } with ⟨hw, c, hcb, hage⟩ | hold
    · have hbc : some c = some b := hcb.symm.trans hb
      cases hbc
      have hdue := mem_slotsDue_some.1 hw
      exact ⟨by rw [hage]; exact le_antisymm hdue.2.2 hdue.2.1, by rw [hage]; exact Nat.zero_le _⟩
    · have hb' : s.ageBuild.builder = some b := by
        rw [← hv.builder]
        exact hold.symm.trans hb
      obtain ⟨c, hsc, rfl, hlim⟩ := ageBuild_builder hb'
      obtain ⟨-, hcount, -⟩ := hfits c hsc
      refine ⟨?_, hlim⟩
      show slotCount v.ftu.inForce.p v.policy.window.w + (c.age + 1) = v.ftu.count + 1
      rw [hv.clock.inForce, hv.clock.count, hv.policy, ageBuild_ftu, ageBuild_policy]
      omega
  | @ownStart v t hv hst hc hret hstored =>
    have hvw : v.policy.windowsOk := by rwa [hv.policy]
    exact ⟨by rw [hret.policy, startFrame_policy]; exact hvw.applyWindow,
      buildFits_of_none (hret.builder.trans (startFrame_builder (Nat.zero_lt_of_lt hvw.applyWindow.1.1)))⟩
  | @ended v w hv hf hret hstored =>
    have hww : w.policy.windowsOk := by rwa [hret.policy, outstanding_policy, hv.policy]
    exact ⟨by rw [startFrame_policy]; exact hww.applyWindow,
      buildFits_of_none (startFrame_builder (Nat.zero_lt_of_lt hww.applyWindow.1.1))⟩

/-- A request leaves the build in flight alone, or abandons it. -/
theorem builder_of_taken {l : Link} {s : State} {kind : ReqKind} {u : State} (hu : Taken l s kind u) :
    u.builder = s.builder ∨ u.builder = none := by
  by_cases hk : kind = .restartScheduling
  · subst hk
    cases hu with
    | same => exact .inl rfl
    | ownPort => exact .inl rfl
    | restart => exact .inr (by rw [restart_eq])
  · exact .inl (hu.leavesAlone.builder hk)

theorem buildFits_taken {l : Link} {s : State} {kind : ReqKind} {u : State} (hu : Taken l s kind u) (hs : BuildFits s) :
    BuildFits u := by
  rcases builder_of_taken hu with hb | hb
  · unfold BuildFits
    rw [window_of_taken hu, hb, hu.leavesAlone.ftu]
    exact hs
  · exact buildFits_of_none hb

theorem buildFollowsWindow_kept : Kept BuildFollowsWindow where
  pending _ _ hs := hs
  powerLow _ _ hs := hs
  reset selected powerLow q :=
    (buildFollowsWindow_iff _).2 ⟨timingInRange_reset selected powerLow q, windowsOk_reset, buildFits_of_none rfl⟩
  ports _ _ _ hs := hs
  edge _ level hs := buildFollowsWindow_edge level hs
  complete s hs := by
    obtain ⟨ht, hw, -⟩ := (buildFollowsWindow_iff s).1 hs
    exact (buildFollowsWindow_iff _).2 ⟨timingInRange_congr (complete_ftu s) ht, by rwa [complete_policy],
      buildFits_of_none (complete_builder s)⟩
  taken hu hs := by
    obtain ⟨ht, hw, hfits⟩ := (buildFollowsWindow_iff _).1 hs
    exact (buildFollowsWindow_iff _).2 ⟨timingInRange_taken hu ht, windowsOk_law.kept.taken hu hw, buildFits_taken hu hfits⟩

/-! ### The plan frames (R85, R123) -/

theorem planFramesAgree_congr {s t : State} (hf : t.ftu.frame = s.ftu.frame) (hl : t.live.frame = s.live.frame)
    (hn : ∀ n ∈ t.next, ∃ m ∈ s.next, n.frame = m.frame)
    (hb : ∀ b ∈ t.builder, ∃ c ∈ s.builder, b.snapshot = c.snapshot) (hs : PlanFramesAgree s) : PlanFramesAgree t := by
  obtain ⟨hlive, hnext, hbuild⟩ := hs
  unfold PlanFramesAgree
  rw [hf, hl]
  refine ⟨hlive, fun n hn' => ?_, fun b hb' => ?_⟩
  · obtain ⟨m, hm, he⟩ := hn n hn'
    rw [he, hnext m hm]
  · obtain ⟨c, hc, he⟩ := hb b hb'
    rw [he, hbuild c hc]

theorem complete_next_frame (s : State) : ∀ n ∈ s.complete.next, (∃ m ∈ s.next, n.frame = m.frame) ∨
    ∃ b ∈ s.builder, n.frame = b.snapshot.frame := by
  intro n hn
  rcases Option.eq_none_or_eq_some s.builder with h | ⟨b, h⟩
  · rw [complete_of_none h] at hn
    exact .inl ⟨n, hn, rfl⟩
  · refine .inr ⟨b, h, ?_⟩
    simp only [State.complete, h] at hn
    rw [raisePlanReady_next, commitHeads_next, commitCredits_next] at hn
    cases hn
    rfl

theorem planFramesAgree_complete {s : State} (hs : PlanFramesAgree s) : PlanFramesAgree s.complete := by
  obtain ⟨hlive, hnext, hbuild⟩ := hs
  refine ⟨by rw [complete_live, complete_ftu, hlive], fun n hn => ?_, fun b hb => ?_⟩
  · rw [complete_ftu]
    rcases complete_next_frame s n hn with ⟨m, hm, he⟩ | ⟨b, hb, he⟩
    · rw [he, hnext m hm]
    · rw [he, hbuild b hb]
  · rw [complete_builder] at hb
    cases hb

theorem planFramesAgree_ageBuild {s : State} (hs : PlanFramesAgree s) : PlanFramesAgree s.ageBuild := by
  rw [ageBuild_eq_ageBy]
  rcases Option.eq_none_or_eq_some s.builder with h | ⟨b, h⟩
  · rwa [ageBy_of_none h]
  · rcases Nat.lt_or_ge buildLimit (b.age + 1) with hlt | hge
    · rw [ageBy_of_late h hlt]
      exact planFramesAgree_complete hs
    · rw [ageBy_of_time h hge]
      exact planFramesAgree_congr (s := s) rfl rfl (fun n hn => ⟨n, hn, rfl⟩) (fun c hc => ⟨b, h, by cases hc; rfl⟩) hs

/-- A build that starts is for the frame after the one that runs. -/
theorem planFramesAgree_slotEvent {s : State} (k : Nat) (hs : PlanFramesAgree s) : PlanFramesAgree (s.slotEvent k) := by
  rcases slotEvent_builder s k with ⟨-, hb⟩ | hb
  · obtain ⟨hlive, hnext, -⟩ := hs
    refine ⟨by rw [slotEvent_live, slotEvent_ftu, hlive], fun n hn => ?_, fun b hb' => ?_⟩
    · rw [slotEvent_next] at hn
      rw [slotEvent_ftu, hnext n hn]
    · rw [hb] at hb'
      cases hb'
      rw [slotEvent_ftu]
      show (((_ : State).presence).ftu.frame + 1) % 4096 = _
      rw [presence_ftu]
      rfl
  · exact planFramesAgree_congr (by rw [slotEvent_ftu]) (by rw [slotEvent_live])
      (fun n hn => ⟨n, by rwa [slotEvent_next] at hn, rfl⟩) (fun b hb' => ⟨b, by rwa [hb] at hb', rfl⟩) hs

theorem planFramesAgree_slotEvents {s : State} (ks : List Nat) (hs : PlanFramesAgree s) :
    PlanFramesAgree (s.slotEvents ks) := by
  induction ks generalizing s with
  | nil => exact hs
  | cons k ks ih => exact ih (planFramesAgree_slotEvent k hs)

theorem Retimed.planFramesAgree {s t : State} (h : Retimed s t) (hs : PlanFramesAgree s) : PlanFramesAgree t :=
  planFramesAgree_congr h.clock.frame (by rw [h.frame]) (fun n hn => ⟨n, by rwa [h.frame] at hn, rfl⟩)
    (fun b hb => ⟨b, by rwa [h.builder] at hb, rfl⟩) hs

theorem live_planFrameStart (s : State) (frame : Nat) : (s.planFrameStart frame).live.frame = frame := by
  by_cases h : ∀ n ∈ s.next, n.frame ≠ frame
  · rcases hp : s.live.plan with _ | _ | _
    · rw [planFrameStart_of_empty h hp]
    · rw [planFrameStart_of_plan h (.inl hp), raisePlanReady_live]
    · rw [planFrameStart_of_plan h (.inr hp), raisePlanReady_live]
  · push Not at h
    obtain ⟨n, hn, hframe⟩ := h
    rw [planFrameStart_of_match hn hframe]

/-- A frame start leaves the frame numbers in agreement. -/
theorem planFramesAgree_startFrame (s : State) : PlanFramesAgree s.startFrame := by
  rw [startFrame_eq]
  refine planFramesAgree_slotEvent 0 ⟨?_, fun n hn => ?_, fun b hb => ?_⟩
  · rw [countdown_live, countdown_ftu, State.planStarted, live_planFrameStart, planFrameStart_ftu]
    rfl
  · rw [countdown_next, State.planStarted, (planFrameStart_builder_next _ _).2] at hn
    cases hn
  · rw [countdown_builder, State.planStarted, (planFrameStart_builder_next _ _).1] at hb
    cases hb

theorem planFramesAgree_edge {s : State} (level : Bool) (hs : PlanFramesAgree s) : PlanFramesAgree (s.edge level) := by
  generalize he : s.edge level = t
  have hshape := he ▸ edge_shape s level
  cases hshape with
  | @goesOn v hv =>
    have hv := hv.planFramesAgree (planFramesAgree_ageBuild hs)
    exact planFramesAgree_slotEvents _ (planFramesAgree_congr (s := v) rfl rfl (fun n hn => ⟨n, hn, rfl⟩)
      (fun b hb => ⟨b, hb, rfl⟩) hv)
  | ownStart hv hst hc hret => exact hret.planFramesAgree (planFramesAgree_startFrame _)
  | ended => exact planFramesAgree_startFrame _

theorem planFramesAgree_kept : Kept PlanFramesAgree where
  pending _ _ hs := hs
  powerLow _ _ hs := hs
  reset _ _ _ := ⟨rfl, fun n hn => (nomatch hn), fun b hb => (nomatch hb)⟩
  ports _ _ _ hs := hs
  edge _ level hs := planFramesAgree_edge level hs
  complete _ hs := planFramesAgree_complete hs
  taken hu hs := by
    have h := hu.leavesAlone
    refine planFramesAgree_congr (by rw [h.ftu]) h.live h.next (fun b hb => ?_) hs
    rcases builder_of_taken hu with hb' | hb' <;> rw [hb'] at hb
    · exact ⟨b, hb, rfl⟩
    · cases hb

end Sys2Proof.Machine
end

section
/-! Proofs that every step keeps a build in flight at its start, with the snapshot that its start took, and that the part
obeys every law right after reset. -/

namespace Sys2Proof.Machine

open Sys2Proof.Safety

/-! ### A snapshot as a build start takes it (R86 to R89) -/

/-- The sectors of the precedence are distinct. -/
theorem precedence_nodup (frame : Nat) {n : Nat} (h : 1 ≤ n ∧ n ≤ 3) : (precedence frame n).Nodup := by
  have hr : frame % n < n := Nat.mod_lt _ h.1
  unfold precedence
  generalize frame % n = r at hr
  obtain ⟨h1, h3⟩ := h
  interval_cases n <;> interval_cases r <;> decide

/-- A record is in the ring of one sector at most. -/
theorem ring_unique {s : State} (hs : s.inAgreement) {i : RecIdx} {j k : SectorId} (hj : i ∈ (s.sector j).ring)
    (hk : i ∈ (s.sector k).ring) : j = k := by
  obtain ⟨m, hm⟩ := ((hs j).2.ring i).1 hj
  obtain ⟨n, hn⟩ := ((hs k).2.ring i).1 hk
  rw [hm] at hn
  cases hn
  rfl

theorem head_snapSector (s : State) (k : SectorId) (dir : Dir) : (snapSector s k).head dir = (s.sector k).head dir := by
  cases dir <;> rfl

/-- What the snapshot holds of a record is the record's (R89). -/
theorem snapRecord_ok (s : State) (k : SectorId) (i : RecIdx) :
    ∀ e ∈ (snapRecord s k i).entry,
      e.index = i ∧ e.generation = (s.record i).generation ∧ e.home = k := by
  intro e he
  rcases Option.eq_none_or_eq_some (s.occupant i) with ho | ⟨o, ho⟩
  · simp [snapRecord, ho] at he
  · by_cases hsus : o.suspended = true
    · simp [snapRecord, ho, hsus] at he
    · simp [snapRecord, ho, hsus] at he
      subst he
      exact ⟨rfl, rfl, rfl⟩

theorem snapshotOk_snapshotOf {s : State} (hd : 4 ≤ s.policy.d ∧ s.policy.d ≤ 12) (hn : 1 ≤ s.policy.n ∧ s.policy.n ≤ 3)
    (hs : s.inAgreement) : SnapshotOk (snapshotOf s) := by
  have hsectors := sectors_snapshotOf s
  generalize hks : (precedence ((s.ftu.frame + 1) % 4096) s.policy.n).filter
    (fun k => (s.sector k).state.isPresent) = ks at hsectors
  have hnodup : ks.Nodup := hks ▸ (precedence_nodup _ hn).filter _
  refine ⟨hd, ?_, ?_, fun v hv => ?_⟩
  · rw [hsectors, List.map_map]
    simpa [Function.comp_def, snapSector] using hnodup
  · rw [hsectors, List.flatMap_map]
    simp only [map_index_snapSector_ring]
    refine List.nodup_flatMap.2 ⟨fun k _ => (hs k).2.ringNodup, ?_⟩
    refine hnodup.imp fun {j k} hjk => List.disjoint_left.2 fun i hj hk => hjk (ring_unique hs hj hk)
  · rw [hsectors] at hv
    obtain ⟨k, -, rfl⟩ := List.mem_map.1 hv
    refine ⟨fun r hr e he => ?_, fun dir => ?_⟩
    · obtain ⟨i, -, rfl⟩ := List.mem_map.1 hr
      exact snapRecord_ok s k i e he
    · obtain ⟨hnone, hmem⟩ := (hs k).2.heads dir
      rw [head_snapSector]
      have hring : (snapSector s k).ring = (s.sector k).ring.map (snapRecord s k) := rfl
      rw [hring, List.map_eq_nil_iff]
      exact ⟨hnone, fun i hi => ⟨snapRecord s k i, List.mem_map_of_mem (hmem i hi), rfl⟩⟩

/-! ### A build in flight stands at its start (R84, R89) -/

/-- The build in flight has a snapshot as a build start takes it, and has placed nothing. -/
def BuildUntouched (s : State) : Prop := ∀ b ∈ s.builder, SnapshotOk b.snapshot ∧ b.work = Work.start b.snapshot

/-- `BuildAtItsStart`, with the maps and rings as `inAgreement_law` keeps them. -/
def BuildLawful (s : State) : Prop := PolicyInRange s ∧ ((True ∧ SectorsFollowN s) ∧ s.inAgreement) ∧ BuildUntouched s

theorem buildAtItsStart_iff (s : State) : BuildAtItsStart s ↔ BuildLawful s := by
  unfold BuildAtItsStart BuildLawful BuildUntouched
  rw [mapsAndRingsAgree_iff, true_and]

theorem buildUntouched_of_none {s : State} (h : s.builder = none) : BuildUntouched s := fun b hb => by
  rw [h] at hb
  cases hb

theorem buildUntouched_congr {s t : State} (h : t.builder = s.builder) (hs : BuildUntouched s) : BuildUntouched t := by
  unfold BuildUntouched
  rwa [h]

/-- A build that starts takes its snapshot from the policy in range and the rings in agreement. -/
theorem buildUntouched_startBuild {s : State} (hp : PolicyInRange s) (ha : s.presence.inAgreement) :
    BuildUntouched s.startBuild := by
  obtain ⟨hn, hd, -⟩ := hp
  intro b hb
  rw [startBuild_builder] at hb
  cases hb
  exact ⟨snapshotOk_snapshotOf (by rwa [presence_policy]) (by rwa [presence_policy]) ha, rfl⟩

theorem buildLawful_edgeKept : EdgeKept BuildLawful where
  ftu s f hs := ⟨hs.1, hs.2⟩
  ports s ps hl hs := ⟨policyInRange_law.edgeKept.ports s ps hl hs.1, inAgreement_law.edgeKept.ports s ps hl hs.2.1, hs.2.2⟩
  windowOpen s b hs := ⟨hs.1, hs.2⟩
  startBuild s hs := ⟨policyInRange_law.startBuild s hs.1, inAgreement_law.startBuild s hs.2.1,
    buildUntouched_startBuild hs.1 (inAgreement_law.presenceAll s hs.2.1).2⟩
  complete s hs := ⟨policyInRange_law.complete s hs.1, inAgreement_law.complete s hs.2.1,
    buildUntouched_of_none (complete_builder s)⟩
  age s b hb hs := ⟨hs.1, hs.2.1, fun c hc => by
    cases hc
    exact hs.2.2 b hb⟩
  planFrameStart s frame hs := ⟨policyInRange_law.planFrameStart s frame hs.1,
    inAgreement_law.planFrameStart s frame hs.2.1, buildUntouched_of_none (planFrameStart_builder_next s frame).1⟩
  window s hs := ⟨policyInRange_law.window s hs.1, inAgreement_law.window s hs.2.1, hs.2.2⟩
  countdown s hs := ⟨policyInRange_law.countdown s hs.1, inAgreement_law.countdown s hs.2.1,
    buildUntouched_congr (countdown_builder s) hs.2.2⟩

theorem buildLawful_kept : Kept BuildLawful where
  pending s q hs := ⟨hs.1, hs.2⟩
  powerLow s b hs := ⟨hs.1, hs.2⟩
  reset selected powerLow q := ⟨policyInRange_law.reset selected powerLow q, inAgreement_law.reset selected powerLow q,
    buildUntouched_of_none rfl⟩
  ports := buildLawful_edgeKept.ports
  edge _ level hs := buildLawful_edgeKept.edge hs level
  complete := buildLawful_edgeKept.complete
  taken hu hs := by
    refine ⟨policyInRange_law.taken hu hs.1, inAgreement_law.taken hu hs.2.1, ?_⟩
    rcases builder_of_taken hu with hb | hb
    · exact buildUntouched_congr hb hs.2.2
    · exact buildUntouched_of_none hb

/-- Settles O56: an edge goes on in the frame or starts one, and a request reaches no window, no build but to abandon it,
and no frame number. -/
theorem windowBuildAndPlanFrameLawsKept : Obligations.WindowBuildAndPlanFrameLawsKept := by
  refine ⟨fun _ _ hs ht => windowFollowsSlots_kept.step hs ht, fun _ _ hs ht => buildFollowsWindow_kept.step hs ht,
    fun s t hs ht => ?_, fun _ _ hs ht => planFramesAgree_kept.step hs ht⟩
  rw [buildAtItsStart_iff] at hs ⊢
  exact buildLawful_kept.step hs ht

/-! ### Right after reset -/

/-- Settles O53: the reset state is one of those that a power-on reset leaves, and every law holds in these. -/
theorem lawsHoldAtReset : Obligations.LawsHoldAtReset := by
  unfold Obligations.LawsHoldAtReset
  rw [reset_eq_resetWith]
  generalize (fun _ : Link => false) = selected
  generalize (false : Bool) = powerLow
  generalize ([] : List Instr) = q
  obtain ⟨⟨he, hhlim⟩, hocc⟩ := occupantsInRange_law.reset selected powerLow q
  obtain ⟨⟨-, hn⟩, hagree⟩ := inAgreement_law.reset selected powerLow q
  obtain ⟨⟨-, hb⟩, hh⟩ := handoverMatches_law.reset selected powerLow q
  exact ⟨policyInRange_law.reset selected powerLow q, somePolicyHolder_law.reset selected powerLow q,
    timingInRange_reset selected powerLow q, windowFollowsSlots_kept.reset selected powerLow q,
    buildFollowsWindow_kept.reset selected powerLow q, planFramesAgree_kept.reset selected powerLow q,
    (idsUnique_law.reset selected powerLow q).2, (creditsBounded_law.reset selected powerLow q).2,
    ⟨he, hhlim, (generations_law.reset selected powerLow q).2, hocc⟩, hn, hb, (mapsAndRingsAgree_iff _).2 ⟨hn, hagree⟩,
    (buildAtItsStart_iff _).2 (buildLawful_kept.reset selected powerLow q),
    ⟨hn, (queuesInOrder_law.reset selected powerLow q).2⟩, hn, hb, hh⟩

end Sys2Proof.Machine
end

section
/-! Proofs of the statements of requests that store or report: SET TIMING, BIND SECTOR, SET LINK RIGHTS, the reads and the
requests about the link itself. -/

namespace Sys2Proof.Machine

open Sys2Proof.Safety

/-! ### Values of a response body (R166, R167) -/

/-- A byte whose first eight bits are those named, of which there are eight at most. -/
theorem fieldBits_of_lt {b : Byte} {bits : List Bool} (hlen : bits.length ≤ 8)
    (h : ∀ n, n < 8 → b.getLsbD n = bits[n]?.getD false) : FieldBits [b] bits := by
  refine ⟨b, rfl, fun n => ?_⟩
  rcases Nat.lt_or_ge n 8 with hn | hn
  · exact h n hn
  · rw [BitVec.getLsbD_of_ge b n hn, List.getElem?_eq_none (hlen.trans hn)]
    rfl

theorem fieldBits_putRights (r : Rights) : FieldBits (putRights r) [r.policy, r.sector, r.read] := by
  obtain ⟨p, s, d⟩ := r
  exact fieldBits_of_lt (by simp) (by revert p s d; decide)

theorem fieldBits_putAdjacency (a : Adjacency) :
    FieldBits (putAdjacency a) [a.between .s0 .s1, a.between .s1 .s2, a.between .s0 .s2] := by
  obtain ⟨p, q, r⟩ := a
  exact fieldBits_of_lt (by simp) (by revert p q r; decide)

theorem fieldBits_putCauses (c : Causes) :
    FieldBits (putCauses c) [c.linkFault, c.planReady, c.handover, c.sectorState, c.timing] := by
  obtain ⟨f, p, h, s, t⟩ := c
  exact fieldBits_of_lt (by simp) (by revert f p h s t; decide)

/-- The bits of a set field decide it. -/
theorem FieldBits.eq_singleton {field : List Byte} {bits : List Bool} (h : FieldBits field bits) {b : Byte}
    (hb : ∀ n, n < 8 → b.getLsbD n = bits[n]?.getD false) : field = [b] := by
  obtain ⟨c, rfl, hc⟩ := h
  rw [BitVec.eq_of_getLsbD_eq fun n hn => (hc n).trans (hb n hn).symm]

/-- The bits that a mask of low bits leaves. -/
theorem getLsbD_and_low (m c : Byte) (n : Nat) : (m &&& c).getLsbD n = (m.getLsbD n && c.getLsbD n) :=
  BitVec.getLsbD_and

theorem putRights_rightsOf (rb : Byte) : putRights (rightsOf rb) = [rb &&& 7] := by
  refine FieldBits.eq_singleton (fieldBits_putRights _) fun n hn => ?_
  rw [getLsbD_and_low]
  interval_cases n <;> simp [rightsOf]

theorem putCauses_causesOf (m : Byte) : putCauses (causesOf m) = [m &&& 31] := by
  refine FieldBits.eq_singleton (fieldBits_putCauses _) fun n hn => ?_
  rw [getLsbD_and_low]
  interval_cases n <;> simp [causesOf]

theorem putFlag_eq (b : Bool) : putFlag b = [if b = true then 1 else 0] := by cases b <;> rfl

theorem putAdjacency_adjacencyOf (b : Byte) : putAdjacency (adjacencyOf b) = [b &&& 7] := by
  refine FieldBits.eq_singleton (fieldBits_putAdjacency _) fun n hn => ?_
  rw [getLsbD_and_low]
  interval_cases n <;> simp [adjacencyOf, Adjacency.between]

/-- The twelve bytes of a mask spell it, tile t being bit t mod 8 of byte t / 8 (R166). -/
theorem getLsbD_putMask (m : TileMask) {tile : Nat} (h : tile < 96) :
    ((putMask m)[tile / 8]?.getD 0).getLsbD (tile % 8) = m.getLsbD tile := by
  have hlt : tile / 8 < 12 := by omega
  have hbyte : (putMask m)[tile / 8]? = some (BitVec.ofNat 8 (m.toNat / 2 ^ (8 * (tile / 8)))) := by
    rw [putMask, List.getElem?_map, List.getElem?_range hlt]
    rfl
  have hbit : tile % 8 < 8 := Nat.mod_lt _ (by decide)
  rw [hbyte, Option.getD_some, BitVec.getLsbD_ofNat, decide_eq_true hbit, Bool.true_and, Nat.testBit_div_two_pow,
    show tile % 8 + 8 * (tile / 8) = tile by omega]
  rfl

/-! ### SET TIMING (R31) -/

theorem setTimingAnswer_of_length {body : List Byte} (s : State) (h : body.length ≠ 6) :
    setTimingAnswer body s = refuse s .range [] := by
  unfold setTimingAnswer
  split
  · exact absurd rfl h
  · rfl

/-- Timing values are stored clamped, and the answer says whether any of them was. -/
theorem setTimingAnswer_of_values (p0 p1 p2 t0 t1 k : Byte) (s : State) :
    setTimingAnswer [p0, p1, p2, t0, t1, k] s =
      let v := clampTiming (field24 p0 p1 p2) (field16 t0 t1) k.toNat
      { state := { s with ftu := { s.ftu with pendingSet := some v } }
        status := if (16384 ≤ field24 p0 p1 p2 ∧ field24 p0 p1 p2 ≤ 1048575) ∧ field16 t0 t1 ≤ 4095 ∧
          1 ≤ k.toNat ∧ k.toNat ≤ 15 then .ok else .okClamped
        body := bytes3 v.p ++ bytes2 v.t ++ [BitVec.ofNat 8 v.k] } := by
  have hfit : clampTiming (field24 p0 p1 p2) (field16 t0 t1) k.toNat =
      { p := field24 p0 p1 p2, t := field16 t0 t1, k := k.toNat } ↔
      (16384 ≤ field24 p0 p1 p2 ∧ field24 p0 p1 p2 ≤ 1048575) ∧ field16 t0 t1 ≤ 4095 ∧ 1 ≤ k.toNat ∧ k.toNat ≤ 15 := by
    simp only [clampTiming, clampTo, TimingSet.mk.injEq]
    omega
  simp only [setTimingAnswer, hfit]
  rfl

/-- Settles O37. -/
theorem setTimingStoresPendingSet : Obligations.SetTimingStoresPendingSet := by
  intro l tag s hr
  refine ⟨fun body hlen => next_serve_eq .setTiming (setTimingAnswer _) hr (setTimingAnswer_of_length s hlen), ?_⟩
  intro p0 p1 p2 t0 t1 k p t v
  have hv : v = clampTiming (field24 p0 p1 p2) (field16 t0 t1) k.toNat := by
    simp only [v, p, t, clampTiming, clampTo, field24, field16, Nat.zero_max]
  rw [hv]
  have h := next_serve_eq (tag := tag) .setTiming (setTimingAnswer _) hr (setTimingAnswer_of_values p0 p1 p2 t0 t1 k s)
  simp only [and_assoc] at h
  exact h

/-! ### BIND SECTOR (R56) -/

theorem bindSectorAnswer_of_length (l : Link) {body : List Byte} (s : State) (h : body.length ≠ 1) :
    bindSectorAnswer l body s = refuse s .range [] := by
  unfold bindSectorAnswer
  split
  · exact absurd rfl h
  · rfl

theorem bindSectorAnswer_of_noSector (l : Link) {kb : Byte} (s : State) (h : 2 < kb.toNat) :
    bindSectorAnswer l [kb] s = refuse s .range [kb, Config.noSectorState kb] := by
  simp only [bindSectorAnswer, sectorOf_eq_none h]

theorem bindSectorAnswer_of_sector (l : Link) (k : SectorId) (s : State) :
    bindSectorAnswer l [BitVec.ofNat 8 (sectorNo k)] s = bindCases l k s := by
  simp only [bindSectorAnswer, toNat_sectorByte, sectorOf_sectorNo]

section BindCases

variable {l : Link} {k : SectorId} {s : State}

theorem bindCases_of_held (h : (s.sector k).state.link? = some l) : bindCases l k s = bindAnswer s k .ok [] := if_pos h

theorem bindCases_of_disabled (h : (s.sector k).state = .disabled) :
    bindCases l k s = bindAnswer s k .sectorDisabled [] := by
  unfold bindCases
  rw [if_neg (by rw [h]; exact fun hn => (nomatch hn)), if_pos h]

variable (hl : (s.sector k).state.link? ≠ some l) (hd : (s.sector k).state ≠ .disabled)
include hl hd

theorem bindCases_of_pinned {p : Link} (hp : s.policy.pins.get k = some p) (hne : p ≠ l) :
    bindCases l k s = bindAnswer s k .sectorPinned [] := by
  unfold bindCases
  rw [if_neg hl, if_neg hd, if_pos (by simp [hp, hne])]

variable (hp : ∀ p, s.policy.pins.get k = some p → p = l)
include hp

/-- A sector that is free for the link is decided by the two bindings. -/
theorem bindCases_of_free :
    bindCases l k s =
      match (s.sector k).state.link? with
      | some holder => bindAnswer s k .sectorTaken (put8 (linkNo holder))
      | none => match s.boundSector l with
        | some held => bindAnswer s k .inUse (put8 (sectorNo held))
        | none => bindAnswer (s.bindTo k l) k .ok [] := by
  have hpin : (s.policy.pins.get k).any (fun p => decide (p ≠ l)) = false := by
    rcases Option.eq_none_or_eq_some (s.policy.pins.get k) with h | ⟨p, h⟩
    · rw [h]; rfl
    · rw [h, hp p h]; simp
  unfold bindCases
  rw [if_neg hl, if_neg hd, hpin]
  rfl

theorem bindCases_of_taken {j : Link} (hj : (s.sector k).state.link? = some j) :
    bindCases l k s = bindAnswer s k .sectorTaken [linkByte (some j)] := by
  rw [bindCases_of_free hl hd hp]
  simp only [hj]
  cases j <;> rfl

theorem bindCases_of_inUse {held : SectorId} (hk : (s.sector k).state.link? = none) (hb : BoundTo s l held) :
    bindCases l k s = bindAnswer s k .inUse [BitVec.ofNat 8 (sectorNo held)] := by
  rw [bindCases_of_free hl hd hp]
  simp only [hk, boundSector_of_boundTo hb]
  rfl

theorem bindCases_of_unbound (hk : (s.sector k).state.link? = none) (hb : Unbound s l) :
    bindCases l k s = bindAnswer (s.bindTo k l) k .ok [] := by
  rw [bindCases_of_free hl hd hp]
  simp only [hk, boundSector_of_unbound hb]

end BindCases

/-- Settles O42: the cases of R56 in their order. -/
theorem bindSectorCases : Obligations.BindSectorCases := by
  intro l tag s hr
  have hnext : ∀ {body : List Byte} {a : Answer}, bindSectorAnswer l body s = a →
      exec (.bindSector l tag body) s = .next (a.state.putResponse l (reply .bindSector tag a.status a.body)) :=
    fun ha => next_serve_eq .bindSector (bindSectorAnswer l _) hr ha
  refine ⟨fun body hlen => hnext (bindSectorAnswer_of_length l s hlen),
    fun kb hkb => ⟨_, hnext (bindSectorAnswer_of_noSector l s hkb)⟩, fun k => ?_⟩
  intro c tail v
  have hcase : ∀ {a : Answer}, bindCases l k s = a →
      exec c s = .next (a.state.putResponse l (reply .bindSector tag a.status a.body)) :=
    fun ha => hnext ((bindSectorAnswer_of_sector l k s).trans ha)
  refine ⟨fun h => hcase (bindCases_of_held h), fun hl => ⟨fun h => hcase (bindCases_of_disabled h), fun hd =>
    ⟨fun p hp hne => hcase (bindCases_of_pinned hl hd hp hne), fun hp => ⟨fun j hj => hcase (bindCases_of_taken hl hd hp hj),
      fun hk => ⟨fun held hb => hcase (bindCases_of_inUse hl hd hp hk hb), fun hb => ⟨s.bindTo k l, ?_, ?_, ?_, ?_, rfl⟩⟩⟩⟩⟩⟩
  · have hbody : (bindAnswer (s.bindTo k l) k .ok []).body = [BitVec.ofNat 8 (sectorNo k), 2] := by
      simp only [bindAnswer, sector_bindTo]
      rfl
    rw [← hbody]
    exact hcase (bindCases_of_unbound hl hd hp hk hb)
  · rw [sector_bindTo, if_pos rfl]
  · intro j hj
    rw [sector_bindTo, if_neg hj]
  · intro j
    exact port_mapPorts _ _ j

/-! ### SET LINK RIGHTS (R160) -/

theorem setLinkRightsAnswer_of_bad {body : List Byte} (s : State)
    (h : body.length ≠ 2 ∨ ∃ lb rb : Byte, body = [lb, rb] ∧ 3 < lb.toNat) :
    setLinkRightsAnswer body s = refuse s .range [] := by
  rcases h with h | ⟨lb, rb, rfl, hlb⟩
  · unfold setLinkRightsAnswer
    split
    · exact absurd rfl h
    · rfl
  · simp only [setLinkRightsAnswer, linkOf_eq_none hlb]

theorem toNat_linkByte (j : Link) : (linkByte (some j)).toNat = linkNo j := by cases j <;> rfl

theorem put8_linkNo (j : Link) : put8 (linkNo j) = [linkByte (some j)] := by cases j <;> rfl

/-- The answer to a request that names a link, once for all its cases. -/
theorem setLinkRightsAnswer_of_link (j : Link) (rb : Byte) (s : State) :
    setLinkRightsAnswer [linkByte (some j), rb] s =
      if (rightsOf rb).policy || otherPolicy s j then
        let t := { s with policy := { s.policy with rights := s.policy.rights.set j (rightsOf rb) } }
        match if (s.rights j).sector && !(rightsOf rb).sector then s.boundSector j else none with
        | some k => { state := t.releaseBinding k, status := .ok, body := [linkByte (some j), rb &&& 7, 1] }
        | none => { state := t, status := .ok, body := [linkByte (some j), rb &&& 7, 0] }
      else refuse s .lastPolicy [] := by
  simp only [setLinkRightsAnswer, toNat_linkByte, linkOf_linkNo, putRights_rightsOf, put8_linkNo]
  rfl

/-- Settles O51. -/
theorem setLinkRightsKeepsAPolicyHolder : Obligations.SetLinkRightsKeepsAPolicyHolder := by
  intro l tag s hr
  refine ⟨fun body hbad => next_serve_eq .setLinkRights (setLinkRightsAnswer _) hr (setLinkRightsAnswer_of_bad s hbad),
    fun j rb => ?_⟩
  intro r c given answer
  have hcase : ∀ {a : Answer}, setLinkRightsAnswer [linkByte (some j), rb] s = a →
      exec c s = .next (a.state.putResponse l (reply .setLinkRights tag a.status a.body)) :=
    fun ha => next_serve_eq .setLinkRights (setLinkRightsAnswer _) hr ha
  have hallowed : (r.policy = true ∨ ∃ q, q ≠ j ∧ (s.rights q).policy = true) ↔
      ((rightsOf rb).policy || otherPolicy s j) = true := by
    rw [Bool.or_eq_true, otherPolicy_iff]
    rfl
  refine ⟨fun hp hothers => hcase (a := refuse s .lastPolicy []) ?_, fun hp => ?_⟩
  · rw [setLinkRightsAnswer_of_link, if_neg]
    rw [← hallowed]
    rintro (h | ⟨q, hq, h⟩)
    · rw [hp] at h; cases h
    · rw [hothers q hq] at h; cases h
  · have hanswer := setLinkRightsAnswer_of_link j rb s
    rw [if_pos (hallowed.1 hp)] at hanswer
    refine ⟨fun k hs hr' hb => ⟨given.releaseBinding k, released_releaseBinding given k,
      hcase (a := { state := given.releaseBinding k, status := .ok, body := [linkByte (some j), rb &&& 7, 1] }) ?_⟩, fun hkeeps => ?_⟩
    · rw [hanswer, hs, show (rightsOf rb).sector = false from hr', Bool.not_false, Bool.and_true, if_pos rfl]
      simp only [boundSector_of_boundTo hb]
      rfl
    · have hnone : (if ((s.rights j).sector && !(rightsOf rb).sector) = true then s.boundSector j else none) = none := by
        rcases hkeeps with h | h | h
        · rw [h]; rfl
        · rw [show (rightsOf rb).sector = true from h]; simp
        · rw [boundSector_of_unbound h]; simp
      refine hcase (a := { state := given, status := .ok, body := [linkByte (some j), rb &&& 7, 0] }) ?_
      rw [hanswer]
      simp only [hnone]
      rfl

/-! ### The reads (R16, R52, R69) -/

theorem readPolicyAnswer_of_bad {body : List Byte} (s : State)
    (h : body.length ≠ 1 ∨ ∃ part : Byte, body = [part] ∧ 2 < part.toNat) :
    readPolicyAnswer body s = refuse s .range [] := by
  rcases h with h | ⟨part, rfl, hpart⟩
  · unfold readPolicyAnswer
    split
    · exact absurd rfl h
    · rfl
  · unfold readPolicyAnswer
    dsimp only
    split
    · omega
    · omega
    · omega
    · rfl

theorem putFlag_isSome {α : Type} [DecidableEq α] (x : Option α) : putFlag x.isSome = [if x = none then 0 else 1] := by
  cases x <;> rfl

theorem policyPart0_eq (s : State) :
    policyPart0 s =
      let p := s.policy
      let held : Window := p.pendingWindow.getD { o := 0, w := 0 }
      [BitVec.ofNat 8 p.n, BitVec.ofNat 8 p.d, BitVec.ofNat 8 p.window.o, BitVec.ofNat 8 p.window.w,
        BitVec.ofNat 8 p.g, BitVec.ofNat 8 p.umin] ++ bytes2 p.z ++ bytes2 p.e ++
       [BitVec.ofNat 8 p.bn, BitVec.ofNat 8 p.bl, BitVec.ofNat 8 p.m, BitVec.ofNat 8 p.hlim, BitVec.ofNat 8 p.alim,
        BitVec.ofNat 8 p.hold] ++ putAdjacency p.adjacency ++
       [if p.pendingWindow = none then 0 else 1, BitVec.ofNat 8 held.o, BitVec.ofNat 8 held.w,
        if s.powerLow = true then 1 else 0] := by
  delta policyPart0
  dsimp only
  rw [putFlag_isSome, putFlag_eq]
  simp [put8, put16, bytes2]

theorem readPolicyAnswer_zero (s : State) :
    readPolicyAnswer [0] s = { state := s, status := .ok, body := policyPart0 s } := rfl

theorem readPolicyAnswer_one (s : State) :
    readPolicyAnswer [1] s = { state := s, status := .ok, body := allSectors.flatMap fun k => putMask (s.policy.masks.get k) } :=
  rfl

theorem readPolicyAnswer_two (s : State) :
    readPolicyAnswer [2] s =
      { state := s, status := .ok
        body := (allLinks.flatMap fun l => putRights (s.rights l)) ++
          allSectors.flatMap fun k => putLink? (s.policy.pins.get k) } := rfl

theorem readSectorsAnswer_of_body {body : List Byte} (s : State) (h : body ≠ []) :
    readSectorsAnswer body s = refuse s .range [] := by
  cases body with
  | nil => exact absurd rfl h
  | cons => rfl

/-- The place and the move that READ SUBSCRIBER shows, an absent field as 0 (R52). -/
def shownPlace (o : Occupant) : Nat × Nat := (o.attachment.place?.map fun p => (sectorNo p.1, p.2)).getD (0, 0)

def shownMove (o : Occupant) : Nat × Nat := (o.attachment.move?.map fun m => (sectorNo m.1, m.2)).getD (0, 0)

theorem subscriberBody_eq (s : State) (i : RecIdx) (o : Occupant) :
    subscriberBody s i o =
      recordBytes s i ++ [BitVec.ofNat 8 (recordStateNo (s.record i)), if o.suspended = true then 1 else 0] ++
        bytes3 o.id ++ termsBytes o.terms ++
        [BitVec.ofNat 8 (shownPlace o).1, BitVec.ofNat 8 (shownPlace o).2, BitVec.ofNat 8 (shownMove o).1,
          BitVec.ofNat 8 (shownMove o).2] ++ bytes2 o.demandDL ++ bytes2 o.demandUL ++ [BitVec.ofNat 8 o.cls] ++
        bytes2 o.ta ++ [BitVec.ofNat 8 o.creditDL, BitVec.ofNat 8 o.creditUL, BitVec.ofNat 8 o.age] := by
  have hfields : subscriberBody s i o =
      putRecord s i ++ put8 (recordStateNo (s.record i)) ++ putFlag o.suspended ++ put24 o.id ++ putTerms o.terms ++
        (put8 (shownPlace o).1 ++ put8 (shownPlace o).2) ++ (put8 (shownMove o).1 ++ put8 (shownMove o).2) ++
        put16 o.demandDL ++ put16 o.demandUL ++ put8 o.cls ++ put16 o.ta ++ put8 o.creditDL ++ put8 o.creditUL ++
        put8 o.age := by
    delta subscriberBody shownPlace shownMove
    cases o.attachment <;> rfl
  rw [hfields, putFlag_eq]
  simp [putRecord, recordBytes, putTerms, termsBytes, put8, put16, put24, bytes2, bytes3]

theorem headHandle_ok (s : State) (head : Option RecIdx) : HeadHandle s head (headHandle s head) := by
  refine ⟨fun h => by rw [h]; rfl, fun i o k handle hh ho hp => ?_⟩
  simp only [headHandle, hh, ho, hp]

theorem sectorBody_ok (s : State) (k : SectorId) : SectorBytes s k (sectorBody s k) := by
  refine ⟨BitVec.ofNat 8 (sectorStateNo (s.sector k).state), headHandle s (s.sector k).dlHead,
    headHandle s (s.sector k).ulHead, fun h => by rw [h]; rfl, fun h => by rw [h]; rfl, fun l h => by rw [h]; rfl,
    fun l h => by rw [h]; rfl, headHandle_ok s _, headHandle_ok s _, ?_⟩
  simp only [sectorBody, putLink_eq, putFlag_eq]
  rfl

/-- Settles O38. -/
theorem readsReportAndChangeNothing : Obligations.ReadsReportAndChangeNothing := by
  refine ⟨fieldBits_putRights, fieldBits_putAdjacency, fun m => ⟨by simp [putMask], fun tile h => getLsbD_putMask m h⟩,
    fun _ _ _ => rfl, ⟨rfl, rfl, rfl⟩, fun l tag s => ?_⟩
  refine ⟨fun body hbad => next_serve_eq .readPolicy (readPolicyAnswer _) rfl (readPolicyAnswer_of_bad s hbad), ?_, ?_, ?_,
    fun body hlen => next_serve_eq .readSubscriber (readSubscriberAnswer _) rfl (withSubscriber_of_length s _ hlen),
    fun i0 i1 i2 hu => next_serve_eq .readSubscriber (readSubscriberAnswer _) rfl (withSubscriber_of_unused _ hu),
    fun i0 i1 i2 i o hi hid => ?_,
    fun body hb => next_serve_eq .readSectors (readSectorsAnswer _) rfl (readSectorsAnswer_of_body s hb),
    sectorBody s .s0, sectorBody s .s1, sectorBody s .s2, sectorBody_ok s _, sectorBody_ok s _, sectorBody_ok s _, ?_⟩
  · refine next_serve_eq .readPolicy (readPolicyAnswer _) rfl (a := { state := s, status := .ok, body := _ }) ?_
    exact (readPolicyAnswer_zero s).trans (congrArg (Answer.mk s .ok) (policyPart0_eq s))
  · refine next_serve_eq .readPolicy (readPolicyAnswer _) rfl (a := { state := s, status := .ok, body := _ }) ?_
    rw [readPolicyAnswer_one]
    simp [allSectors]
  · refine next_serve_eq .readPolicy (readPolicyAnswer _) rfl (a := { state := s, status := .ok, body := _ }) ?_
    rw [readPolicyAnswer_two]
    simp [allSectors, allLinks, putLink_eq]
  · obtain ⟨hun, hact, hmov⟩ := recordStateNo_of_occupant hi.1
    refine ⟨recordStateNo (s.record i), (shownPlace o).1, (shownPlace o).2, (shownMove o).1, (shownMove o).2,
      fun ha => ⟨hun ha, ?_⟩, fun k h ha => ⟨hact k h ha, ?_⟩, fun k h t n ha => ⟨hmov k h t n ha, ?_⟩, ?_⟩
    · simp [shownPlace, shownMove, ha, Attachment.place?, Attachment.move?]
    · simp [shownPlace, shownMove, ha, Attachment.place?, Attachment.move?]
    · simp [shownPlace, shownMove, ha, Attachment.place?, Attachment.move?]
    · refine next_serve_eq .readSubscriber (readSubscriberAnswer _) rfl (a := { state := s, status := .ok, body := _ }) ?_
      rw [readSubscriberAnswer, withSubscriber_of_holds _ hi hid, subscriberBody_eq]
  · refine next_serve_eq .readSectors (readSectorsAnswer _) rfl (a := { state := s, status := .ok, body := _ }) ?_
    simp [readSectorsAnswer, allSectors]

/-! ### The requests about the link itself (R32, R161 to R164) -/

theorem timingBody_eq (f : Ftu) :
    timingBody f =
      let held : TimingSet := f.pendingSet.getD { p := 0, t := 0, k := 0 }
      [BitVec.ofNat 8 (timingStateNo f.state)] ++ bytes2 f.frame ++ bytes3 f.count ++ bytes2 f.h ++
        [BitVec.ofNat 8 f.margin, BitVec.ofNat 8 f.goodRun] ++ bytes3 f.interval ++ bytes2 f.glitch ++ bytes2 f.missed ++
        bytes2 f.stray ++ bytes3 f.inForce.p ++ bytes2 f.inForce.t ++
        [BitVec.ofNat 8 f.inForce.k, if f.pendingSet = none then 0 else 1] ++ bytes3 held.p ++ bytes2 held.t ++
        [BitVec.ofNat 8 held.k] := by
  simp [timingBody, putFlag_isSome, put8, put16, put24, bytes2, bytes3]

/-- The byte of the sector that a link is bound to, 255 for none (R167). -/
def boundByte (s : State) (l : Link) : Byte := BitVec.ofNat 8 (((s.boundSector l).map sectorNo).getD 255)

theorem putSector_boundSector (s : State) (l : Link) : putSector? (s.boundSector l) = [boundByte s l] := by
  unfold boundByte
  cases s.boundSector l <;> rfl

theorem boundByte_of_unbound {s : State} {l : Link} (h : Unbound s l) : boundByte s l = 255 := by
  rw [boundByte, boundSector_of_unbound h]
  rfl

theorem boundByte_of_boundTo {s : State} {l : Link} {k : SectorId} (h : BoundTo s l k) :
    boundByte s l = BitVec.ofNat 8 (sectorNo k) := by
  rw [boundByte, boundSector_of_boundTo h]
  rfl

theorem attentionBody_eq (s : State) (l : Link) :
    attentionBody s l =
      [BitVec.ofNat 8 (((s.port l).causes.and (s.port l).mask).top?.getD 255)] ++ putCauses (s.port l).causes ++
        putCauses (s.port l).mask ++ bytes2 (if (s.port l).causes.planReady = true then (s.port l).readyFrame else 0) ++
        [boundByte s l] := by
  rw [attentionBody, putSector_boundSector]
  rfl

theorem linkStatusBody_eq (s : State) (l : Link) :
    linkStatusBody s l =
      [linkByte (some l)] ++ putRights (s.rights l) ++ [boundByte s l, BitVec.ofNat 8 s.policy.hold,
        BitVec.ofNat 8 (s.port l).errors.framing, BitVec.ofNat 8 (s.port l).errors.badLength,
        BitVec.ofNat 8 (s.port l).errors.badChecksum, BitVec.ofNat 8 (s.port l).errors.unknownKind,
        BitVec.ofNat 8 (s.port l).errors.holdTimeout] := by
  rw [linkStatusBody, putSector_boundSector, put8_linkNo]
  simp [put8]

theorem setAttentionMaskAnswer_of_length (l : Link) {body : List Byte} (s : State) (h : body.length ≠ 1) :
    setAttentionMaskAnswer l body s = refuse s .range [] := by
  unfold setAttentionMaskAnswer
  split
  · exact absurd rfl h
  · rfl

theorem setAttentionMaskAnswer_of_mask (l : Link) (m : Byte) (s : State) :
    setAttentionMaskAnswer l [m] s =
      { state := s.setPort l { s.port l with mask := causesOf m }, status := .ok
        body := [m &&& 31] ++ putCauses (s.port l).causes } := by
  rw [setAttentionMaskAnswer, putCauses_causesOf]

theorem attentionLine_iff (s : State) (l : Link) :
    s.attentionLine l = true ↔
      ((s.port l).causes.linkFault = true ∧ (s.port l).mask.linkFault = true) ∨
      ((s.port l).causes.planReady = true ∧ (s.port l).mask.planReady = true) ∨
      ((s.port l).causes.handover = true ∧ (s.port l).mask.handover = true) ∨
      ((s.port l).causes.sectorState = true ∧ (s.port l).mask.sectorState = true) ∨
      ((s.port l).causes.timing = true ∧ (s.port l).mask.timing = true) := by
  simp [State.attentionLine, Causes.and, Causes.any, or_assoc]

/-- The requests of a link about itself that carry no body refuse one. -/
theorem linkRequests_refuse_body (l : Link) {body : List Byte} (s : State) (h : body ≠ []) :
    readTimingAnswer l body s = refuse s .range [] ∧ readAttentionAnswer l body s = refuse s .range [] ∧
      readLinkStatusAnswer l body s = refuse s .range [] := by
  cases body with
  | nil => exact absurd rfl h
  | cons => exact ⟨rfl, rfl, rfl⟩

/-- Settles O52. -/
theorem linkRequestsTouchTheirOwnPort : Obligations.LinkRequestsTouchTheirOwnPort := by
  refine ⟨fieldBits_putCauses, fieldBits_putRights, fun f => ⟨fun h => by rw [Ftu.margin, h], fun h => by rw [Ftu.margin, h],
    fun h => by rw [Ftu.margin, h]⟩, fun l tag body s hb => ?_, fun l tag s => ?_, fun l tag s => ?_, fun l tag s hr => ?_,
    attentionLine_iff⟩
  · obtain ⟨htiming, hattention, hstatus⟩ := linkRequests_refuse_body l s hb
    exact ⟨next_serve_eq .readTiming (readTimingAnswer l _) rfl htiming,
      next_serve_eq .readAttention (readAttentionAnswer l _) rfl hattention,
      next_serve_eq .readLinkStatus (readLinkStatusAnswer l _) rfl hstatus⟩
  · refine ⟨BitVec.ofNat 8 (timingStateNo s.ftu.state), fun h => by rw [h]; rfl, fun h => by rw [h]; rfl,
      fun h => by rw [h]; rfl, next_serve_eq .readTiming (readTimingAnswer l _) rfl (a := { state := _, status := .ok, body := _ }) ?_⟩
    exact congrArg (Answer.mk _ .ok) (timingBody_eq s.ftu)
  · refine ⟨boundByte s l, boundByte_of_unbound, fun k => boundByte_of_boundTo,
      ⟨BitVec.ofNat 8 (((s.port l).causes.and (s.port l).mask).top?.getD 255), ?_⟩, ?_⟩
    · intro live
      refine ⟨fun h => ?_, fun h1 h2 => ?_, fun h1 h2 h3 => ?_, fun h1 h2 h3 h4 => ?_, fun h => ?_, fun h => ?_,
        next_serve_eq .readAttention (readAttentionAnswer l _) rfl (a := { state := _, status := .ok, body := _ }) ?_⟩
      · show BitVec.ofNat 8 (live.top?.getD 255) = 0
        simp [Causes.top?, h]
      · show BitVec.ofNat 8 (live.top?.getD 255) = 1
        simp [Causes.top?, h1, h2]
      · show BitVec.ofNat 8 (live.top?.getD 255) = 2
        simp [Causes.top?, h1, h2, h3]
      · show BitVec.ofNat 8 (live.top?.getD 255) = 3
        simp [Causes.top?, h1, h2, h3, h4]
      · show BitVec.ofNat 8 (live.top?.getD 255) = 4
        rw [h]; rfl
      · show BitVec.ofNat 8 (live.top?.getD 255) = 255
        rw [h]; rfl
      · exact congrArg (Answer.mk _ .ok) (attentionBody_eq s l)
    · refine next_serve_eq .readLinkStatus (readLinkStatusAnswer l _) rfl (a := { state := _, status := .ok, body := _ }) ?_
      exact congrArg (Answer.mk _ .ok) (linkStatusBody_eq s l)
  · have hright : (s.rights l).allow (rightNeeded .setAttentionMask) = true := by
      simpa [Rights.allow, rightNeeded] using hr
    exact ⟨fun body hlen => next_serve_eq .setAttentionMask (setAttentionMaskAnswer l _) hright
        (setAttentionMaskAnswer_of_length l s hlen),
      fun m => next_serve_eq .setAttentionMask (setAttentionMaskAnswer l _) hright (setAttentionMaskAnswer_of_mask l m s)⟩

end Sys2Proof.Machine
end

section
/-! Proofs of the statements of SET POLICY: the list that is refused whole, and the list that is applied whole. -/

namespace Sys2Proof.Machine

open Sys2Proof.Safety

/-! ### The check of a list of items (R12, R13) -/

/-- The status with which an item is refused, if it is: an identifier that names no parameter, or a failed check. -/
def itemRefusal (s : State) (it : Byte × Byte × Byte) : Option Status :=
  match policyItem it.1 it.2.1 it.2.2 with
  | none => some .range
  | some item => checkItem s item

theorem firstRefused_cons (s : State) (pos : Nat) (it : Byte × Byte × Byte) (rest : List (Byte × Byte × Byte)) :
    firstRefused s pos (it :: rest) =
      match itemRefusal s it with
      | some st => some (pos, st)
      | none => firstRefused s (pos + 1) rest := by
  obtain ⟨i, lo, hi⟩ := it
  rw [firstRefused, itemRefusal]
  cases policyItem i lo hi <;> rfl

/-- The list is refused at its first refused item. -/
theorem firstRefused_eq_some {s : State} {items : List (Byte × Byte × Byte)} {p : Nat} {it : Byte × Byte × Byte} {st : Status}
    (hit : items[p]? = some it) (hst : itemRefusal s it = some st)
    (hbefore : ∀ q, q < p → ∀ other, items[q]? = some other → itemRefusal s other = none) (pos : Nat) :
    firstRefused s pos items = some (pos + p, st) := by
  induction items generalizing p pos with
  | nil => cases hit
  | cons a rest ih =>
    rw [firstRefused_cons]
    cases p with
    | zero =>
      obtain rfl : a = it := by simpa using hit
      rw [hst]
      rfl
    | succ p =>
      rw [hbefore 0 (Nat.succ_pos p) a rfl]
      have h := ih (by simpa using hit) (fun q hq other ho => hbefore (q + 1) (by omega) other (by simpa using ho)) (pos + 1)
      rw [show pos + (p + 1) = pos + 1 + p by omega]
      exact h

theorem firstRefused_eq_none {s : State} {items : List (Byte × Byte × Byte)} (h : ∀ it ∈ items, itemRefusal s it = none)
    (pos : Nat) : firstRefused s pos items = none := by
  induction items generalizing pos with
  | nil => rfl
  | cons a rest ih =>
    rw [firstRefused_cons, h a List.mem_cons_self]
    exact ih (fun it hit => h it (List.mem_cons_of_mem a hit)) (pos + 1)

/-- An N item is refused when a sector that it disables is bound or the home of a record. -/
theorem checkItem_n (s : State) (v : Nat) (st : Status) :
    checkItem s (.n v) = some st ↔ st = .inUse ∧
      ∃ k, max 1 (min 3 v) ≤ sectorNo k ∧ sectorNo k < s.policy.n ∧
        ((s.sector k).state.link? ≠ none ∨ ∃ i o h, s.occupant i = some o ∧ o.attachment.place? = some (k, h)) := by
  have hany : (sectorsLost (clampTo 1 3 v) s.policy.n).any (fun k => isBound s k || isHome s k) = true ↔
      ∃ k, max 1 (min 3 v) ≤ sectorNo k ∧ sectorNo k < s.policy.n ∧
        ((s.sector k).state.link? ≠ none ∨ ∃ i o h, s.occupant i = some o ∧ o.attachment.place? = some (k, h)) := by
    rw [List.any_eq_true]
    refine exists_congr fun k => ?_
    rw [sectorsLost, List.mem_filter, decide_eq_true_eq, Bool.or_eq_true, isHome_iff, isBound, Option.isSome_iff_ne_none,
      and_assoc, and_assoc]
    refine (and_iff_right (mem_allSectors k)).trans (and_congr_right fun _ => and_congr_right fun _ => or_congr_right ?_)
    simp only [placeOf_eq_some]
    exact exists_congr fun i => exists_comm
  rw [← hany, checkItem]
  split
  · next h => simp only [h, and_true, Option.some.injEq]; exact eq_comm
  · next h => simp [h]

theorem checkItem_window (s : State) (o w : Nat) (st : Status) :
    checkItem s (.window o w) = some st ↔ ¬(o < w ∧ w ≤ 15) ∧ st = .range := by
  rw [checkItem]
  split
  · next h => simp [h]
  · next h => simp only [h, not_false_iff, true_and, Option.some.injEq]; exact eq_comm

/-- The refused items are those of R12 and R13. -/
theorem itemRefused_iff (s : State) (it : Byte × Byte × Byte) (st : Status) :
    ItemRefused s it st ↔ itemRefusal s it = some st := by
  obtain ⟨i, lo, hi⟩ := it
  unfold ItemRefused itemRefusal
  dsimp only
  generalize hp : policyItem i lo hi = p
  unfold policyItem at hp
  split at hp <;> subst hp
  case h_1 h =>
    rw [h]
    simp [checkItem_n]
  case h_3 h =>
    rw [h]
    simp [checkItem_window]
  case h_15 h1 h2 h3 h4 h5 h6 h7 h8 h9 h10 h11 h12 h13 h14 =>
    simp only [imp_false] at *
    have hout : i.toNat = 0 ∨ 14 < i.toNat := by omega
    have hne3 : i.toNat ≠ 3 := h3
    have hne1 : i.toNat ≠ 1 := h1
    simp only [hout, hne3, hne1, false_and, or_false, true_and, Option.some.injEq]
    exact eq_comm
  all_goals
    next h =>
      rw [h]
      simp [checkItem]

theorem setPolicyAnswer_of_refused {items : List (Byte × Byte × Byte)} {s : State} {pos : Nat} {st : Status}
    (h : firstRefused s 0 items = some (pos, st)) :
    setPolicyAnswer (policyBody items) s = refuse s st [BitVec.ofNat 8 pos] := by
  simp only [setPolicyAnswer, policyTriples_policyBody, h]
  rfl

theorem setPolicyAnswer_of_accepted {items : List (Byte × Byte × Byte)} {s : State} (h : firstRefused s 0 items = none) :
    setPolicyAnswer (policyBody items) s =
      { state := (applyItems s items).state
        status := if (applyItems s items).clamped = true then .okClamped else .ok
        body := (applyItems s items).stored } := by
  simp only [setPolicyAnswer, policyTriples_policyBody, h]

/-- Settles O33. -/
theorem setPolicyRefusedWhole : Obligations.SetPolicyRefusedWhole := by
  refine ⟨fun l tag items pos item st s hr hit hst hbefore => ?_, fun l tag body s hr hlen => ?_⟩
  · have hfirst := firstRefused_eq_some hit ((itemRefused_iff s item st).1 hst)
      (fun q hq other ho => Option.eq_none_iff_forall_ne_some.2 fun st' h =>
        hbefore q hq other st' ho ((itemRefused_iff s other st').2 h)) 0
    rw [Nat.zero_add] at hfirst
    exact next_serve_eq .setPolicy (setPolicyAnswer _) hr (setPolicyAnswer_of_refused hfirst)
  · refine next_serve_eq .setPolicy (setPolicyAnswer _) hr (a := refuse s .range [255]) ?_
    rw [setPolicyAnswer, policyTriples_none hlen]
    rfl

/-! ### The policy after a list of items (R12) -/

theorem lastItem_cons (ident : Nat) (it : Byte × Byte × Byte) (rest : List (Byte × Byte × Byte)) :
    lastItem ident (it :: rest) = (lastItem ident rest).or (lastItem ident [it]) := by
  unfold lastItem
  rw [List.filter_cons]
  split
  · next h =>
    rw [List.getLast?_cons]
    cases (rest.filter fun it => decide (it.1.toNat = ident)).getLast? <;> simp [h]
  · next h => simp [h]

theorem lastItem_singleton (ident : Nat) (it : Byte × Byte × Byte) :
    lastItem ident [it] = if it.1.toNat = ident then some it.2 else none := by
  unfold lastItem
  split
  · next h => simp [h]
  · next h => simp [h]

theorem picked8_cons (ident lo hi old : Nat) (it : Byte × Byte × Byte) (rest : List (Byte × Byte × Byte)) :
    picked8 ident lo hi old (it :: rest) = picked8 ident lo hi (picked8 ident lo hi old [it]) rest := by
  unfold picked8
  rw [lastItem_cons]
  cases lastItem ident rest <;> rfl

theorem picked16_cons (ident lo hi old : Nat) (it : Byte × Byte × Byte) (rest : List (Byte × Byte × Byte)) :
    picked16 ident lo hi old (it :: rest) = picked16 ident lo hi (picked16 ident lo hi old [it]) rest := by
  unfold picked16
  rw [lastItem_cons]
  cases lastItem ident rest <;> rfl

/-- The policy with each parameter at the value of the last item that names it. -/
def Policy.after (p : Policy) (items : List (Byte × Byte × Byte)) : Policy :=
  { p with
    n := picked8 1 1 3 p.n items
    d := picked8 2 4 12 p.d items
    pendingWindow := match lastItem 3 items with
      | some v => some { o := v.1.toNat, w := v.2.toNat }
      | none => p.pendingWindow
    g := picked8 4 0 20 p.g items
    umin := picked8 5 1 20 p.umin items
    z := picked16 6 0 1023 p.z items
    e := picked16 7 0 1023 p.e items
    bn := picked8 8 0 216 p.bn items
    bl := picked8 9 0 216 p.bl items
    m := picked8 10 1 15 p.m items
    hlim := picked8 11 1 63 p.hlim items
    alim := picked8 12 1 255 p.alim items
    hold := picked8 13 1 16 p.hold items
    adjacency := match lastItem 14 items with
      | some v => { p01 := v.1.getLsbD 0, p12 := v.1.getLsbD 1, p02 := v.1.getLsbD 2 }
      | none => p.adjacency }

theorem Policy.after_cons (p : Policy) (it : Byte × Byte × Byte) (rest : List (Byte × Byte × Byte)) :
    p.after (it :: rest) = (p.after [it]).after rest := by
  unfold Policy.after
  simp only [picked8_cons _ _ _ _ it rest, picked16_cons _ _ _ _ it rest, lastItem_cons _ it rest]
  cases lastItem 3 rest <;> cases lastItem 14 rest <;> rfl

theorem clampTo_eq_self_iff {lo hi : Nat} (h : lo ≤ hi) (v : Nat) : clampTo lo hi v = v ↔ ¬(v < lo ∨ hi < v) := by
  unfold clampTo
  omega

theorem itemClamped_iff (it : Byte × Byte × Byte) :
    itemClamped it = true ↔ ∃ lo hi wide, policyRange it.1.toNat = some (lo, hi, wide) ∧
      (itemValue wide it < lo ∨ hi < itemValue wide it) := by
  unfold itemClamped
  rcases Option.eq_none_or_eq_some (policyRange it.1.toNat) with h | ⟨⟨lo, hi, wide⟩, h⟩
  · simp [h]
  · rw [h]
    refine decide_eq_true_iff.trans ⟨fun hv => ⟨lo, hi, wide, rfl, hv⟩, ?_⟩
    rintro ⟨lo', hi', wide', he, hv⟩
    cases he
    exact hv

theorem itemValue_wide (i lo hi : Byte) : itemValue true (i, lo, hi) = field16 lo hi := rfl

theorem itemValue_byte (i lo hi : Byte) : itemValue false (i, lo, hi) = lo.toNat := rfl

section Item

variable {i lo hi : Byte} {item : PolicyItem} (h : policyItem i lo hi = some item) (s : State)
include h

/-- An item does what the list of that item alone is said to do (R12). -/
theorem applyItem_policy : (applyItem s item).state.policy = s.policy.after [(i, lo, hi)] := by
  unfold policyItem at h
  split at h
  case h_15 => cases h
  all_goals
    next hi' =>
      cases h
      simp [applyItem, appliedValue, Policy.after, picked8, picked16, lastItem_singleton, hi', setN_policy, clampTo,
        State.setPolicy, field16, adjacencyOf]

theorem applyItem_stored : (applyItem s item).stored = itemStored (i, lo, hi) := by
  unfold policyItem at h
  split at h
  case h_15 => cases h
  all_goals
    next hi' =>
      cases h
      simp [applyItem, appliedValue, itemStored, hi', policyRange, itemValue_wide, itemValue_byte, clampTo, put16, put8,
        putAdjacency_adjacencyOf]

theorem applyItem_clamped : (applyItem s item).clamped = itemClamped (i, lo, hi) := by
  rw [Bool.eq_iff_iff]
  unfold policyItem at h
  split at h
  case h_15 => cases h
  all_goals
    next hi' =>
      cases h
      simp [applyItem, appliedValue, clampTo_eq_self_iff, itemClamped_iff, hi', policyRange, itemValue_wide, itemValue_byte]

theorem isN_iff : (∃ v, item = .n v) ↔ i.toNat = 1 := by
  unfold policyItem at h
  split at h
  case h_15 => cases h
  all_goals
    next hi' =>
      cases h
      simp [hi']

/-- An N item puts each sector where R13 has it; the other items leave the sectors. -/
theorem applyItem_sector (k : SectorId) :
    (applyItem s item).state.sector k =
      if i.toNat = 1 then sectorForN (clampTo 1 3 lo.toNat) k (s.sector k) else s.sector k := by
  rcases sector_applyItem s item with ⟨v, rfl, he⟩ | ⟨hv, -, hne⟩
  · have h1 : i.toNat = 1 := (isN_iff h).1 ⟨v, rfl⟩
    have hv : v = lo.toNat := by simpa [policyItem, h1] using h.symm
    rw [he, sector_setN, if_pos h1, hv]
  · rw [sector_congr hv, if_neg fun h1 => ((isN_iff h).2 h1).elim hne]

end Item

/-! ### SECTOR STATE after a list of items (R13, R55) -/

/-- Some sector's state differs. -/
def StatesDiffer (s u : State) : Prop := ∃ k, (u.sector k).state ≠ (s.sector k).state

/-- SECTOR STATE is raised on every port or none, on every one where a sector's state differs, and nothing else happens to
a port. -/
def RaisesForStates (s u : State) : Prop :=
  ∃ r : Bool, (∀ j, u.port j = (s.port j).evaluated r false) ∧ (StatesDiffer s u → r = true)

theorem RaisesForStates.refl_of {s u : State} (hp : u.ports = s.ports) (hs : u.sectors = s.sectors) :
    RaisesForStates s u :=
  ⟨false, fun j => by rw [port_congr hp, port_evaluated_false], fun ⟨_, h⟩ => absurd (by rw [sector_congr hs]) h⟩

theorem RaisesForStates.trans {s u w : State} (h : RaisesForStates s u) (h' : RaisesForStates u w) : RaisesForStates s w := by
  obtain ⟨r, hp, hr⟩ := h
  obtain ⟨r', hp', hr'⟩ := h'
  refine ⟨r || r', fun j => by rw [hp', hp, port_evaluated_evaluated, Bool.or_false], fun ⟨k, hk⟩ => ?_⟩
  rw [Bool.or_eq_true]
  by_cases hu : (u.sector k).state = (s.sector k).state
  · exact .inr (hr' ⟨k, fun h => hk (h.trans hu)⟩)
  · exact .inl (hr ⟨k, hu⟩)

theorem setN_of_states_eq {s : State} {n : Nat} (h : ∀ k, (sectorForN n k (s.sector k)).state = (s.sector k).state) :
    (s.setN n).ports = s.ports := by
  unfold State.setN
  dsimp only
  rw [if_neg]
  rw [List.any_eq_true]
  rintro ⟨k, -, hk⟩
  refine (of_decide_eq_true hk) ?_
  rw [show ({ s with policy := { s.policy with n := n }, sectors := PerSector.of fun k => sectorForN n k (s.sector k) } :
    State).sector k = sectorForN n k (s.sector k) from PerSector.get_of _ k]
  exact h k

theorem raisesForStates_setN (s : State) (n : Nat) : RaisesForStates s (s.setN n) := by
  by_cases h : ∀ k, (sectorForN n k (s.sector k)).state = (s.sector k).state
  · exact ⟨false, fun j => by rw [port_congr (setN_of_states_eq h), port_evaluated_false],
      fun ⟨k, hk⟩ => absurd ((congrArg Sector.state (sector_setN s n k)).trans (h k)) hk⟩
  · refine ⟨true, fun j => ?_, fun _ => rfl⟩
    obtain ⟨k, hk⟩ := not_forall.1 h
    unfold State.setN
    dsimp only
    rw [if_pos, port_raiseSectorState]
    · rfl
    · rw [List.any_eq_true]
      refine ⟨k, mem_allSectors k, decide_eq_true ?_⟩
      rw [show ({ s with policy := { s.policy with n := n }, sectors := PerSector.of fun k => sectorForN n k (s.sector k) } :
        State).sector k = sectorForN n k (s.sector k) from PerSector.get_of _ k]
      exact hk

theorem raisesForStates_applyItem (s : State) (item : PolicyItem) : RaisesForStates s (applyItem s item).state := by
  cases item with
  | n v => exact raisesForStates_setN s _
  | _ => exact .refl_of rfl rfl

/-- A sector's state stays where N leaves it when it is DISABLED exactly from N on. -/
theorem state_sectorForN {n : Nat} {k : SectorId} {v : Sector} (h : v.state = .disabled ↔ n ≤ sectorNo k) :
    (sectorForN n k v).state = v.state := by
  unfold sectorForN
  split
  · next hle => exact (h.2 hle).symm
  · next hlt => rw [if_neg fun hd => hlt (h.1 hd)]

/-! ### The list as a whole (R12, R13, R14) -/

/-- What a list of items without a refused one does. -/
structure AppliesAll (s : State) (items : List (Byte × Byte × Byte)) (a : Applied) : Prop where
  policy : a.state.policy = s.policy.after items
  stored : a.stored = items.flatMap itemStored
  clamped : a.clamped = items.any itemClamped
  sector : ∀ k, a.state.sector k = (items.filter fun it => decide (it.1.toNat = 1)).foldl
    (fun v it => sectorForN (clampTo 1 3 it.2.1.toNat) k v) (s.sector k)
  raises : RaisesForStates s a.state
  quiet : (∀ it ∈ items, it.1.toNat = 1 → ∀ k, (s.sector k).state = .disabled ↔ clampTo 1 3 it.2.1.toNat ≤ sectorNo k) →
    a.state.ports = s.ports

theorem Policy.after_nil (p : Policy) : p.after [] = p := rfl

theorem AppliesAll.nil (s : State) : AppliesAll s [] { state := s, stored := [], clamped := false } where
  policy := (Policy.after_nil s.policy).symm
  stored := rfl
  clamped := rfl
  sector _ := rfl
  raises := .refl_of rfl rfl
  quiet _ := rfl

theorem AppliesAll.cons {s : State} {i lo hi : Byte} {item : PolicyItem} (h : policyItem i lo hi = some item)
    {rest : List (Byte × Byte × Byte)} {b : Applied} (hb : AppliesAll (applyItem s item).state rest b) :
    AppliesAll s ((i, lo, hi) :: rest)
      { state := b.state, stored := (applyItem s item).stored ++ b.stored
        clamped := (applyItem s item).clamped || b.clamped } where
  policy := by rw [hb.policy, applyItem_policy h, Policy.after_cons _ (i, lo, hi) rest]
  stored := by rw [hb.stored, applyItem_stored h, List.flatMap_cons]
  clamped := by rw [hb.clamped, applyItem_clamped h, List.any_cons]
  sector k := by
    rw [hb.sector, applyItem_sector h, List.filter_cons]
    by_cases h1 : i.toNat = 1 <;> simp [h1]
  raises := (raisesForStates_applyItem s item).trans hb.raises
  quiet hq := by
    have hstep : (∀ k, ((applyItem s item).state.sector k).state = (s.sector k).state) ∧
        (applyItem s item).state.ports = s.ports := by
      rcases sector_applyItem s item with ⟨v, rfl, he⟩ | ⟨hv, -, hne⟩
      · have h1 : i.toNat = 1 := (isN_iff h).1 ⟨v, rfl⟩
        have hv : v = lo.toNat := by simpa [policyItem, h1] using h.symm
        have hstate : ∀ k, (sectorForN (clampTo 1 3 v) k (s.sector k)).state = (s.sector k).state := fun k =>
          state_sectorForN (by rw [hv]; exact hq _ List.mem_cons_self h1 k)
        rw [he]
        exact ⟨fun k => by rw [sector_setN, hstate], setN_of_states_eq hstate⟩
      · refine ⟨fun k => by rw [sector_congr hv], ?_⟩
        cases item with
        | n v => exact absurd rfl (hne v)
        | _ => rfl
    rw [hb.quiet fun it hit h1 k => by rw [hstep.1]; exact hq it (List.mem_cons_of_mem _ hit) h1 k, hstep.2]

theorem appliesAll_applyItems {items : List (Byte × Byte × Byte)} :
    ∀ {s : State}, (∀ it ∈ items, policyItem it.1 it.2.1 it.2.2 ≠ none) → AppliesAll s items (applyItems s items) := by
  induction items with
  | nil => exact fun {s} _ => .nil s
  | cons it rest ih =>
    intro s hitems
    obtain ⟨i, lo, hi⟩ := it
    obtain ⟨item, h⟩ := Option.ne_none_iff_exists'.1 (hitems _ List.mem_cons_self)
    simp only [applyItems, h]
    exact .cons h (ih fun it hit => hitems it (List.mem_cons_of_mem _ hit))

/-- Settles O34, by induction on the list. -/
theorem setPolicyStoresEveryItem : Obligations.SetPolicyStoresEveryItem := by
  intro l tag items s hr hitems
  have hok : ∀ it ∈ items, itemRefusal s it = none := fun it hit =>
    Option.eq_none_iff_forall_ne_some.2 fun st h => hitems it hit st ((itemRefused_iff s it st).2 h)
  have hall : AppliesAll s items (applyItems s items) := appliesAll_applyItems fun it hit h => by
    have := hok it hit
    rw [itemRefusal, h] at this
    cases this
  obtain ⟨r, hports, hr'⟩ := hall.raises
  refine ⟨(applyItems s items).state, ?_, hall.policy, hall.sector, fun hdiff j => ?_, fun hq j => ?_, fun j => ?_,
    (applyItems_frame s items).1⟩
  · rw [← hall.clamped, ← hall.stored]
    exact next_serve_eq .setPolicy (setPolicyAnswer _) hr (setPolicyAnswer_of_accepted (firstRefused_eq_none hok 0))
  · rw [hports, hr' hdiff]
    simp [Port.evaluated]
  · rw [port_congr (hall.quiet hq)]
  · rw [hports]
    simp [Port.evaluated]

end Sys2Proof.Machine
end

section
/-! Proof of the statement of the plan reads: what a read of a frame finds, the grants that fit, and the grant entry. -/

namespace Sys2Proof.Machine

open Sys2Proof.Safety

/-! ### What a read finds (R130) -/

theorem findPlan_live {s : State} {frame : Nat} (h : s.live.frame = frame) : s.findPlan frame = .plan s.live.view := if_pos h

theorem findPlan_next {s : State} {frame : Nat} (h : s.live.frame ≠ frame) {n : NextPlan} (hn : s.next = some n)
    (hf : n.frame = frame) : s.findPlan frame = .plan n.view := by
  rw [State.findPlan, if_neg h, hn]
  exact if_pos hf

theorem findPlan_build {s : State} {frame : Nat} (h : s.live.frame ≠ frame) (hn : ∀ n ∈ s.next, n.frame ≠ frame) :
    s.findPlan frame = s.findBuild frame := by
  rw [State.findPlan, if_neg h]
  rcases Option.eq_none_or_eq_some s.next with hnone | ⟨n, hsome⟩
  · rw [hnone]
  · rw [hsome]
    exact if_neg (hn n hsome)

theorem findBuild_notYet {s : State} {frame : Nat} (h : ∃ b ∈ s.builder, b.snapshot.frame = frame) :
    s.findBuild frame = .notYet := by
  obtain ⟨b, hb, hf⟩ := h
  rw [State.findBuild, Option.mem_def.1 hb]
  exact if_pos hf

theorem findBuild_stale {s : State} {frame : Nat} (h : ∀ b ∈ s.builder, b.snapshot.frame ≠ frame) :
    s.findBuild frame = .stale := by
  rw [State.findBuild]
  rcases Option.eq_none_or_eq_some s.builder with hnone | ⟨b, hsome⟩
  · rw [hnone]
  · rw [hsome]
    exact if_neg (h b hsome)

/-! ### The grant entry (R168) -/

theorem foldl_pow_filter (p : Nat → Bool) :
    ((List.range 6).filter p).foldl (fun acc n => acc + 2 ^ n) 0 =
      (p 0).toNat + 2 * (p 1).toNat + 4 * (p 2).toNat + 8 * (p 3).toNat + 16 * (p 4).toNat + 32 * (p 5).toNat := by
  simp only [show List.range 6 = [0, 1, 2, 3, 4, 5] from rfl, List.filter_cons, List.filter_nil]
  generalize p 0 = b0
  generalize p 1 = b1
  generalize p 2 = b2
  generalize p 3 = b3
  generalize p 4 = b4
  generalize p 5 = b5
  revert b0 b1 b2 b3 b4 b5
  decide

/-- Six flags as the bits of a number. -/
theorem testBit_six (b0 b1 b2 b3 b4 b5 : Bool) :
    let v := b0.toNat + 2 * b1.toNat + 4 * b2.toNat + 8 * b3.toNat + 16 * b4.toNat + 32 * b5.toNat
    v < 64 ∧ v.testBit 0 = b0 ∧ v.testBit 1 = b1 ∧ v.testBit 2 = b2 ∧ v.testBit 3 = b3 ∧ v.testBit 4 = b4 ∧
      v.testBit 5 = b5 := by
  revert b0 b1 b2 b3 b4 b5
  decide

theorem subchannelSet_spec (g : Grant) (slot : Nat) :
    subchannelSet g slot < 64 ∧ ∀ n, n < 6 → ((subchannelSet g slot).testBit n = true ↔ 6 * slot + n ∈ g.tiles) := by
  unfold subchannelSet
  rw [foldl_pow_filter]
  obtain ⟨hlt, h0, h1, h2, h3, h4, h5⟩ := testBit_six (decide (6 * slot + 0 ∈ g.tiles)) (decide (6 * slot + 1 ∈ g.tiles))
    (decide (6 * slot + 2 ∈ g.tiles)) (decide (6 * slot + 3 ∈ g.tiles)) (decide (6 * slot + 4 ∈ g.tiles))
    (decide (6 * slot + 5 ∈ g.tiles))
  refine ⟨hlt, fun n hn => ?_⟩
  rw [← decide_eq_true_iff (p := 6 * slot + n ∈ g.tiles)]
  interval_cases n
  · rw [h0]
  · rw [h1]
  · rw [h2]
  · rw [h3]
  · rw [h4]
  · rw [h5]

theorem grantSlots_pairwise (g : Grant) : (grantSlots g).Pairwise (· < ·) := List.pairwise_lt_range.filter _

theorem mem_grantSlots_iff {g : Grant} (hg : ∀ t ∈ g.tiles, t < 96) (slot : Nat) :
    slot ∈ grantSlots g ↔ ∃ t ∈ g.tiles, t / 6 = slot := by
  simp only [grantSlots, List.mem_filter, List.mem_range, List.any_eq_true, decide_eq_true_eq]
  refine ⟨And.right, fun h => ⟨?_, h⟩⟩
  obtain ⟨t, ht, rfl⟩ := h
  have := hg t ht
  omega

theorem grantFlags_eq (g : Grant) :
    grantFlags g = (if g.dir = .ul then 1 else 0) + (if g.trimmed = true then 2 else 0) +
      (if g.void = true then 4 else 0) + 16 * (grantSlots g).length := by
  unfold grantFlags
  cases g.dir <;> cases g.trimmed <;> cases g.void <;> rfl

theorem grantEntry_eq (g : Grant) :
    grantEntry g = [BitVec.ofNat 8 g.index.val, BitVec.ofNat 8 g.generation, BitVec.ofNat 8 g.handle,
        BitVec.ofNat 8 ((if g.dir = .ul then 1 else 0) + (if g.trimmed = true then 2 else 0) +
          (if g.void = true then 4 else 0) + 16 * (grantSlots g).length)] ++
      bytes2 (g.nR + 8 * g.nS + 512 * g.nL) ++ bytes2 g.bytes ++
      (grantSlots g).flatMap (fun slot => [BitVec.ofNat 8 slot, BitVec.ofNat 8 (subchannelSet g slot)]) := by
  rw [grantEntry, grantFlags_eq]
  rfl

/-! ### The bodies (R131, R132) -/

/-- Entries are packed in list order, as many as fit whole. -/
theorem packEntries_spec (room : Nat) (grants : List Grant) :
    ∃ n, n ≤ grants.length ∧ packEntries room grants = (grants.take n).map grantEntry ∧
      ((grants.take n).map fun g => (grantEntry g).length).sum ≤ room ∧
      (n < grants.length → room < ((grants.take (n + 1)).map fun g => (grantEntry g).length).sum) := by
  induction grants generalizing room with
  | nil => exact ⟨0, Nat.le_refl _, rfl, Nat.zero_le _, fun h => absurd h (Nat.lt_irrefl 0)⟩
  | cons g rest ih =>
    by_cases hfit : (grantEntry g).length ≤ room
    · obtain ⟨n, hn, hpack, hsum, hnext⟩ := ih (room - (grantEntry g).length)
      refine ⟨n + 1, Nat.succ_le_succ hn, ?_, ?_, fun h => ?_⟩
      · simp [packEntries, hfit, hpack]
      · rw [List.take_succ_cons, List.map_cons, List.sum_cons]
        omega
      · have := hnext (Nat.lt_of_succ_lt_succ h)
        rw [List.take_succ_cons, List.map_cons, List.sum_cons]
        omega
    · refine ⟨0, Nat.zero_le _, ?_, Nat.zero_le _, fun _ => ?_⟩
      · simp [packEntries, hfit]
      · simpa using hfit

/-- The grants of a sector that a read sees, none when the sector is not in the plan. -/
def PlanView.grants (v : PlanView) (k : SectorId) : List Grant :=
  match v.plan.bind fun p => p.sectors.get k with
  | some sp => sp.grants
  | none => []

theorem PlanView.byte_eq (v : PlanView) : v.byte = v.status + if v.overrun = true then 4 else 0 := by
  unfold PlanView.byte
  cases v.overrun <;> rfl

theorem grantsBody_eq (v : PlanView) (k : SectorId) (first : Nat) :
    ∃ n, n ≤ ((v.grants k).drop first).length ∧
      ((((v.grants k).drop first).take n).map fun g => (grantEntry g).length).sum ≤ 54 ∧
      (n < ((v.grants k).drop first).length →
        54 < ((((v.grants k).drop first).take (n + 1)).map fun g => (grantEntry g).length).sum) ∧
      grantsBody v k first =
        bytes2 v.frame ++
          [BitVec.ofNat 8 (v.status + (if v.overrun = true then 4 else 0) +
              if (v.plan.bind fun p => p.sectors.get k).isSome = true then 8 else 0),
            BitVec.ofNat 8 (v.grants k).length, BitVec.ofNat 8 n, BitVec.ofNat 8 (min (first + n) (v.grants k).length)] ++
          (((v.grants k).drop first).take n).flatMap grantEntry := by
  obtain ⟨n, hn, hpack, hsum, hnext⟩ := packEntries_spec 54 ((v.grants k).drop first)
  have hlen : (packEntries 54 ((v.grants k).drop first)).length = n := by
    rw [hpack, List.length_map, List.length_take]
    omega
  have hin : v.byte + 8 * (v.plan.bind fun p => p.sectors.get k).isSome.toNat =
      v.status + (if v.overrun = true then 4 else 0) +
        if (v.plan.bind fun p => p.sectors.get k).isSome = true then 8 else 0 := by
    rw [PlanView.byte_eq]
    cases (v.plan.bind fun p => p.sectors.get k).isSome <;> rfl
  have hbody : grantsBody v k first =
      put16 v.frame ++ put8 (v.byte + 8 * (v.plan.bind fun p => p.sectors.get k).isSome.toNat) ++
        put8 (v.grants k).length ++ put8 (packEntries 54 ((v.grants k).drop first)).length ++
        put8 (min (first + (packEntries 54 ((v.grants k).drop first)).length) (v.grants k).length) ++
        (packEntries 54 ((v.grants k).drop first)).flatten := rfl
  refine ⟨n, hn, hsum, hnext, ?_⟩
  rw [hbody, hlen, hin, hpack, ← List.flatMap_def]
  simp [put8, put16, bytes2]

theorem putSectorSummary_eq (sp : Option SectorPlan) : putSectorSummary sp = summaryBytes sp := by
  cases sp with
  | none => rfl
  | some sp => simp [putSectorSummary, putSummary, summaryBytes, put8, put16, bytes2]

theorem summaryBody_eq (v : PlanView) : summaryBody v = planSummaryBytes v.frame v.status v.overrun v.plan := by
  have hin : ∀ x : Option SectorPlan, x.isSome.toNat = if x.isSome = true then 1 else 0 := fun x => by cases x <;> rfl
  unfold summaryBody planSummaryBytes
  rw [PlanView.byte_eq]
  cases v.plan with
  | none => rfl
  | some p =>
    simp only [putSectorSummary_eq, hin]
    rfl

/-! ### The two reads -/

section Reads

variable {l : Link} {k : SectorId} {f0 f1 first : Byte} {s : State}

theorem readGrantsAnswer_of_plan {v : PlanView} (h : s.findPlan (fieldFrame f0 f1) = .plan v) :
    readGrantsAnswer l [f0, f1, first] k s =
      { state := s.clearPlanReady l (fieldFrame f0 f1), status := .ok, body := grantsBody v k first.toNat } := by
  simp only [readGrantsAnswer, h]

theorem readPlanSummaryAnswer_of_plan {v : PlanView} (h : s.findPlan (fieldFrame f0 f1) = .plan v) :
    readPlanSummaryAnswer l [f0, f1] s =
      { state := s.clearPlanReady l (fieldFrame f0 f1), status := .ok, body := summaryBody v } := by
  simp only [readPlanSummaryAnswer, h]

theorem reads_of_notYet (h : s.findPlan (fieldFrame f0 f1) = .notYet) :
    readGrantsAnswer l [f0, f1, first] k s = refuse s .notYet [] ∧
      readPlanSummaryAnswer l [f0, f1] s = refuse s .notYet [] := by
  simp only [readGrantsAnswer, readPlanSummaryAnswer, h, and_self]

theorem reads_of_stale (h : s.findPlan (fieldFrame f0 f1) = .stale) :
    readGrantsAnswer l [f0, f1, first] k s = refuse s .stale [] ∧
      readPlanSummaryAnswer l [f0, f1] s = refuse s .stale [] := by
  simp only [readGrantsAnswer, readPlanSummaryAnswer, h, and_self]

theorem readGrantsAnswer_of_length {body : List Byte} (h : body.length ≠ 3) :
    readGrantsAnswer l body k s = refuse s .range [] := by
  unfold readGrantsAnswer
  split
  · exact absurd rfl h
  · rfl

theorem readPlanSummaryAnswer_of_length {body : List Byte} (h : body.length ≠ 2) :
    readPlanSummaryAnswer l body s = refuse s .range [] := by
  unfold readPlanSummaryAnswer
  split
  · exact absurd rfl h
  · rfl

end Reads

/-- Settles O47. -/
theorem planReadsFindTheFrame : Obligations.PlanReadsFindTheFrame := by
  refine ⟨fun l k tag f0 f1 first s => ?_, fun l k tag body s hr => ?_, fun g hg =>
    ⟨grantSlots g, subchannelSet g, grantEntry_eq g, grantSlots_pairwise g, mem_grantSlots_iff hg, subchannelSet_spec g⟩⟩
  · intro frame grants summary cleared found refused
    have hfound : ∀ v, s.findPlan frame = .plan v → found v.frame v.status v.overrun v.plan := by
      intro v hv
      refine ⟨fun hr hb => ?_, fun hr => ?_⟩
      · obtain ⟨n, hn, hsum, hnext, hbody⟩ := grantsBody_eq v k first.toNat
        exact ⟨n, hn, hsum, hnext, hbody ▸
          next_serveBound_eq .readGrants (readGrantsAnswer l _) hr hb (readGrantsAnswer_of_plan hv)⟩
      · rw [← summaryBody_eq]
        exact next_serve_eq .readPlanSummary (readPlanSummaryAnswer l _) hr (readPlanSummaryAnswer_of_plan hv)
    refine ⟨fun hl => ⟨fun overrun hp => ?_, fun p hp => ?_, fun p hp => ?_⟩, fun hl =>
      ⟨fun n hn hf => ?_, fun hn => ⟨fun hb => ?_, fun hb => ?_⟩⟩⟩
    · have := hfound s.live.view (findPlan_live hl)
      simpa only [Live.view, hp, hl] using this
    · have := hfound s.live.view (findPlan_live hl)
      simpa only [Live.view, hp, hl] using this
    · have := hfound s.live.view (findPlan_live hl)
      simpa only [Live.view, hp, hl] using this
    · have := hfound n.view (findPlan_next hl hn hf)
      simpa only [NextPlan.view, hf] using this
    · have hfind := (findPlan_build hl hn).trans (findBuild_notYet hb)
      exact ⟨fun hr hbound => next_serveBound_eq .readGrants (readGrantsAnswer l _) hr hbound (reads_of_notYet (l := l) hfind).1,
        fun hr => next_serve_eq .readPlanSummary (readPlanSummaryAnswer l _) hr (reads_of_notYet (k := k) (first := first) hfind).2⟩
    · have hfind := (findPlan_build hl hn).trans (findBuild_stale hb)
      exact ⟨fun hr hbound => next_serveBound_eq .readGrants (readGrantsAnswer l _) hr hbound (reads_of_stale (l := l) hfind).1,
        fun hr => next_serve_eq .readPlanSummary (readPlanSummaryAnswer l _) hr (reads_of_stale (k := k) (first := first) hfind).2⟩
  · exact ⟨fun hlen hb => next_serveBound_eq .readGrants (readGrantsAnswer l _) hr hb (readGrantsAnswer_of_length hlen),
      fun hlen => next_serve_eq .readPlanSummary (readPlanSummaryAnswer l _) hr (readPlanSummaryAnswer_of_length hlen)⟩

end Sys2Proof.Machine
end

section
/-! Proofs of the statements of select periods: what a period begins with, and that a good telegram is taken. -/

namespace Sys2Proof.Machine

open Sys2Proof.Safety

/-! ### Telegrams and their bits (R151, R152, R166) -/

theorem byteTotal_with_checksum (bytes : List Byte) : byteTotal (bytes ++ [checksum bytes]) % 256 = 0 :=
  (byteSum_eq_zero_iff _).1 (byteSum_with_checksum bytes)

/-- The bit at place `n` of byte `i`, most significant bit first. -/
theorem getElem?_bitsOfBytes (bytes : List Byte) (i : Nat) {n : Nat} (hn : n < 8) :
    (bitsOfBytes bytes)[8 * i + n]? = bytes[i]?.map fun b => b.getLsbD (7 - n) := by
  induction bytes generalizing i with
  | nil => rfl
  | cons b rest ih =>
    have hbits : bitsOfBytes (b :: rest) = bitsOfByte b ++ bitsOfBytes rest := rfl
    have hlen : (bitsOfByte b).length = 8 := rfl
    rw [hbits]
    cases i with
    | zero =>
      rw [Nat.mul_zero, Nat.zero_add, List.getElem?_append_left (hlen ▸ hn)]
      interval_cases n <;> rfl
    | succ i =>
      rw [List.getElem?_append_right (by omega), hlen, show 8 * (i + 1) + n - 8 = 8 * i + n by omega, ih i]
      rfl

/-- What a port drives from the start of a period: the outgoing bits, then 0. -/
theorem drive_zero (p : Port) (n : Nat) :
    p.drive 0 n = (bitsOfBytes p.outgoing ++ List.replicate n false).take n := by
  refine List.ext_getElem? fun j => ?_
  rw [Port.drive, List.getElem?_map, List.drop_zero, List.getElem?_take]
  rcases Nat.lt_or_ge j n with hj | hj
  · rw [List.getElem?_range hj, if_pos hj, Option.map_some]
    rcases Nat.lt_or_ge j (bitsOfBytes p.outgoing).length with hin | hout
    · rw [List.getElem?_append_left hin, List.getElem?_eq_getElem hin, Option.getD_some]
    · rw [List.getElem?_append_right hout, List.getElem?_eq_none hout,
        List.getElem?_replicate_of_lt (show j - (bitsOfBytes p.outgoing).length < n by omega), Option.getD_none]
  · rw [List.getElem?_eq_none (by simpa using hj), if_neg (by omega), Option.map_none]

/-! ### A period begins (R151) -/

/-- A period of a port after its first bits. -/
theorem shift_start (p : Port) (hold : Nat) (bits : List Bool) :
    (p.start hold).shift bits = { p with
      selected := true, hold := hold, slots := 0, timedOut := false, bitsIn := bits
      outgoing := responseTelegram (p.buffer.getD { status := .empty, tag := 0, kind := 0, body := [] })
      heldOut := p.buffer.isSome
      bitsOut := (bitsOfBytes (responseTelegram (p.buffer.getD { status := .empty, tag := 0, kind := 0, body := [] })) ++
        List.replicate bits.length false).take bits.length
      buffer := if 8 ≤ bits.length then none else p.buffer } := by
  have hbuffer : (if (p.buffer.isSome && decide (0 < 8 ∧ 8 ≤ 0 + bits.length)) = true then none else p.buffer) =
      if 8 ≤ bits.length then none else p.buffer := by
    cases p.buffer <;> simp
  have hshift : (p.start hold).shift bits = { p.start hold with
      bitsIn := [] ++ bits
      bitsOut := [] ++ (p.start hold).drive 0 bits.length
      buffer := if (p.buffer.isSome && decide (0 < 8 ∧ 8 ≤ 0 + bits.length)) = true then none else p.buffer } := rfl
  rw [hshift, hbuffer, drive_zero]
  rfl

/-- Settles O25. -/
theorem selectAssertStartsPeriod : Obligations.SelectAssertStartsPeriod := by
  refine ⟨fun r => ⟨_, rfl, byteTotal_with_checksum _⟩, rfl, rfl, rfl, fun s l bits hs => ?_⟩
  have hexec : exec (.selectAssert l bits) s =
      .next (s.setPort l (((s.port l).start s.policy.hold).shift bits)) := by
    have hassert : s.assertSelect l = s.setPort l ((s.port l).start s.policy.hold) :=
      if_neg (by rw [hs]; exact Bool.false_ne_true)
    change Host.Outcome.next ((s.assertSelect l).clockLink l bits) = _
    have hsel : ((s.port l).start s.policy.hold).selected = true := rfl
    rw [hassert, State.clockLink, port_setPort_same, if_pos hsel, setPort_setPort]
  refine ⟨_, hexec, rfl, fun _ hj => port_setPort_other s _ hj, ?_⟩
  rw [port_setPort_same, shift_start]

/-! ### A good telegram (R152, R154) -/

theorem completeBytes_fill (kind : ReqKind) (tag : Byte) (body fill : List Byte) :
    completeBytes (bitsOfBytes (requestTelegram kind tag body ++ fill)) =
      BitVec.ofNat 8 kind.code :: tag :: BitVec.ofNat 8 body.length ::
        (body ++ checksum (BitVec.ofNat 8 kind.code :: tag :: BitVec.ofNat 8 body.length :: body) :: fill) := by
  rw [completeBytes_bitsOfBytes, requestTelegram]
  simp

/-- A period whose bits are a request's telegram and any fill has that request as its outcome. -/
theorem outcome_of_telegram {p : Port} {kind : ReqKind} {tag : Byte} {body fill : List Byte} (hbody : body.length ≤ 60)
    (ht : p.timedOut = false) (hbits : p.bitsIn = bitsOfBytes (requestTelegram kind tag body ++ fill)) :
    p.outcome = .request kind tag body := by
  have hlen : (BitVec.ofNat 8 body.length : Byte).toNat = body.length := by
    rw [BitVec.toNat_ofNat]
    omega
  have hkind : ReqKind.ofCode (BitVec.ofNat 8 kind.code : Byte).toNat = some kind := by
    have := code_lt kind
    rw [BitVec.toNat_ofNat, Nat.mod_eq_of_lt (by omega), ofCode_code]
  have hwhole : requestTelegram kind tag body ++ fill =
      BitVec.ofNat 8 kind.code :: tag :: BitVec.ofNat 8 body.length ::
        (body ++ checksum (BitVec.ofNat 8 kind.code :: tag :: BitVec.ofNat 8 body.length :: body) :: fill) := by
    rw [← completeBytes_fill, completeBytes_bitsOfBytes]
  have hsum : byteSum ((requestTelegram kind tag body ++ fill).take (4 + (BitVec.ofNat 8 body.length : Byte).toNat)) = 0 := by
    rw [hlen, List.take_append_of_le_length (by rw [length_requestTelegram]), List.take_of_length_le (by rw [length_requestTelegram])]
    exact byteSum_requestTelegram kind tag body
  have hlong : 4 + (BitVec.ofNat 8 body.length : Byte).toNat ≤ (requestTelegram kind tag body ++ fill).length := by
    rw [hlen, List.length_append, length_requestTelegram]
    omega
  rw [hwhole] at hsum hlong
  have hout := telegramOutcome_of_request (hlen.trans_le hbody) hlong hsum hkind
  rw [outcome_of_header ht (by rw [hbits, length_bitsOfBytes]; omega) (by rw [hbits, completeBytes_fill]), hout, hlen,
    List.take_left]

/-- Settles O26. -/
theorem goodTelegramIsTaken : Obligations.GoodTelegramIsTaken := by
  refine ⟨fun kind tag body => ⟨_, rfl, byteTotal_with_checksum _⟩, rfl, fun bytes i n hn => getElem?_bitsOfBytes bytes i hn,
    fun c kind l tag body fill bits s hc hwf hs ht hbits => ?_⟩
  have hbody : body.length ≤ 60 := by
    simp only [Instr.wf, hc] at hwf
    exact of_decide_eq_true hwf
  have hout : ((s.port l).shift bits).outcome = .request kind tag body :=
    outcome_of_telegram hbody (by rw [shift_timedOut, ht]) (by rw [shift_bitsIn bits ht, hbits])
  rw [exec_selectRelease hs hout, exec_eq_takeRequest hc]
  rfl

end Sys2Proof.Machine
end

section
/-! Proofs of the statements of frame pulses (R23, R26, R27): a glitch, a stray pulse, a good pulse, and the pulse that starts
a frame. A pulse that starts no frame changes the FTU alone, which the rest of the edge reads only by the frame number and
the holdover margin. -/

namespace Sys2Proof.Machine

open Sys2Proof.Safety

/-! ### The slot boundaries read the FTU's frame number and margin alone (R20, R85, R86) -/

theorem mapOccupants_withFtu (s : State) (f : Ftu) (g : RecIdx → Occupant → Occupant) :
    ({ s with ftu := f } : State).mapOccupants g = { s.mapOccupants g with ftu := f } := rfl

theorem setQueue_of_noLink {s : State} {k : SectorId} (h : (s.sector k).state.link? = none) (q : List Notice) :
    s.setQueue k q = { s with queues := s.queues.set k q } := by
  unfold State.setQueue
  dsimp only
  split
  · next hl => exact absurd ((hl.symm.trans h : _)) (fun hn => (nomatch hn))
  · rfl

theorem setQueue_of_link {s : State} {k : SectorId} {l : Link} (h : (s.sector k).state.link? = some l) (q : List Notice) :
    s.setQueue k q = ({ s with queues := s.queues.set k q } : State).setHandover l (!q.isEmpty) := by
  unfold State.setQueue
  dsimp only
  split
  · next hl => rw [Option.some.inj (hl.symm.trans h)]
  · next hl => exact absurd (hl.symm.trans h) (fun hn => (nomatch hn))

theorem setQueue_withFtu (s : State) (f : Ftu) (k : SectorId) (q : List Notice) :
    ({ s with ftu := f } : State).setQueue k q = { s.setQueue k q with ftu := f } := by
  rcases Option.eq_none_or_eq_some (s.sector k).state.link? with h | ⟨l, h⟩
  · rw [setQueue_of_noLink h, setQueue_of_noLink (s := { s with ftu := f }) h]
  · rw [setQueue_of_link h, setQueue_of_link (s := { s with ftu := f }) h]
    rfl

theorem cancelMovesTo_withFtu (s : State) (f : Ftu) (k : SectorId) :
    ({ s with ftu := f } : State).cancelMovesTo k = { s.cancelMovesTo k with ftu := f } := by
  unfold State.cancelMovesTo
  rw [mapOccupants_withFtu, setQueue_withFtu]

theorem evaluatePresence_withFtu (s : State) (f : Ftu) (k : SectorId) :
    ({ s with ftu := f } : State).evaluatePresence k = { s.evaluatePresence k with ftu := f } := by
  have hset : ({ s with ftu := f } : State).setSector k ((s.sector k).evaluated s.policy.m) =
      { s.setSector k ((s.sector k).evaluated s.policy.m) with ftu := f } := rfl
  have hsector : ({ s with ftu := f } : State).sector k = s.sector k := rfl
  rw [evaluatePresence_eq, evaluatePresence_eq]
  dsimp only
  rw [hsector, hset, cancelMovesTo_withFtu]
  split <;> split <;> rfl

theorem presence_withFtu (s : State) (f : Ftu) : ({ s with ftu := f } : State).presence = { s.presence with ftu := f } := by
  simp only [State.presence, allSectors, List.foldl_cons, List.foldl_nil, evaluatePresence_withFtu]

theorem raiseAges_withFtu (s : State) (f : Ftu) :
    ({ s with ftu := f } : State).raiseAges = { s.raiseAges with ftu := f } := by
  unfold State.raiseAges
  rw [mapOccupants_withFtu]
  rfl
theorem snapshotOf_withFtu (s : State) {f : Ftu} (hf : f.frame = s.ftu.frame) (hm : f.margin = s.ftu.margin) :
    snapshotOf ({ s with ftu := f } : State) = snapshotOf s := by
  unfold snapshotOf
  simp only [hf, hm]
  rfl

theorem startBuild_withFtu (s : State) {f : Ftu} (hf : f.frame = s.ftu.frame) (hm : f.margin = s.ftu.margin) :
    ({ s with ftu := f } : State).startBuild = { s.startBuild with ftu := f } := by
  have hsnap : snapshotOf { s.presence with ftu := f } = snapshotOf s.presence :=
    snapshotOf_withFtu _ (by rw [presence_ftu, hf]) (by rw [presence_ftu, hm])
  unfold State.startBuild
  dsimp only
  rw [presence_withFtu, hsnap, raiseAges_withFtu]

section SlotEvent

variable {s : State} {k : Nat}

theorem slotEvent_of_open (h : k = s.policy.window.o) :
    s.slotEvent k = { s.mapPorts fun _ p => p.countSlot with windowOpen := true } := if_pos h

theorem slotEvent_of_close (ho : k ≠ s.policy.window.o) (hw : k = s.policy.window.w) :
    s.slotEvent k = ({ s.mapPorts fun _ p => p.countSlot with windowOpen := false } : State).startBuild :=
  (if_neg ho).trans (if_pos hw)

theorem slotEvent_of_neither (ho : k ≠ s.policy.window.o) (hw : k ≠ s.policy.window.w) :
    s.slotEvent k = s.mapPorts fun _ p => p.countSlot :=
  (if_neg ho).trans (if_neg hw)

end SlotEvent

theorem slotEvent_withFtu (s : State) (k : Nat) {f : Ftu} (hf : f.frame = s.ftu.frame) (hm : f.margin = s.ftu.margin) :
    ({ s with ftu := f } : State).slotEvent k = { s.slotEvent k with ftu := f } := by
  by_cases ho : k = s.policy.window.o
  · rw [slotEvent_of_open ho, slotEvent_of_open (s := { s with ftu := f }) ho]
    rfl
  · by_cases hw : k = s.policy.window.w
    · rw [slotEvent_of_close ho hw, slotEvent_of_close (s := { s with ftu := f }) ho hw]
      exact startBuild_withFtu { s.mapPorts fun _ p => p.countSlot with windowOpen := false } hf hm
    · rw [slotEvent_of_neither ho hw, slotEvent_of_neither (s := { s with ftu := f }) ho hw]
      rfl

theorem slotEvents_withFtu (s : State) (ks : List Nat) {f : Ftu} (hf : f.frame = s.ftu.frame)
    (hm : f.margin = s.ftu.margin) : ({ s with ftu := f } : State).slotEvents ks = { s.slotEvents ks with ftu := f } := by
  induction ks generalizing s with
  | nil => rfl
  | cons k ks ih =>
    show (({ s with ftu := f } : State).slotEvent k).slotEvents ks = _
    rw [slotEvent_withFtu s k hf hm, ih _ (by rw [slotEvent_ftu, hf]) (by rw [slotEvent_ftu, hm])]
    rfl

/-- The count, the set, the frame number and the margin of an FTU are those of another. -/
structure SameTiming (f g : Ftu) : Prop where
  count : g.count = f.count
  inForce : g.inForce = f.inForce
  frame : g.frame = f.frame
  margin : g.margin = f.margin

/-- An edge that starts no frame leaves the rest of the FTU as it is. -/
theorem advance_withFtu (s : State) {f : Ftu} (h : SameTiming s.ftu f) :
    ({ s with ftu := f } : State).advance = { s.advance with ftu := { f with count := s.ftu.count + 1 } } := by
  have hstate : ({ ({ s with ftu := f } : State) with ftu := { f with count := f.count + 1 } } : State) =
      { ({ s with ftu := { s.ftu with count := s.ftu.count + 1 } } : State) with
        ftu := { f with count := s.ftu.count + 1 } } := by
    rw [h.count]
  unfold State.advance
  dsimp only at hstate ⊢
  rw [hstate, h.count, h.inForce]
  exact slotEvents_withFtu ({ s with ftu := { s.ftu with count := s.ftu.count + 1 } } : State) _ h.frame h.margin

/-- An edge on which the frame goes on, with another FTU of the same timing, is the plain edge with that FTU. -/
theorem advance_eq_plainEdge {s u : State} (hg : FrameGoesOn s) {f : Ftu} (h : SameTiming s.ftu f)
    (hu : exec (.referenceClockEdge false) s = .next u) :
    ({ s.ageBuild with ftu := f } : State).advance = { u with ftu := { f with count := s.ftu.count + 1 } } := by
  have hedge : s.edge false = u := Host.Outcome.next.inj hu
  have hq : SameTiming s.ageBuild.ftu (quietMeasured s.ftu false) := by
    rw [ageBuild_ftu]
    exact ⟨rfl, rfl, rfl, rfl⟩
  have hf : SameTiming s.ageBuild.ftu f := by rwa [ageBuild_ftu]
  rw [← hedge, edge_of_goesOn (.inl rfl) hg, advance_withFtu s.ageBuild hq, advance_withFtu s.ageBuild hf, ageBuild_ftu]

/-! ### Pulses in LOCKED (R23) -/

/-- The state at an edge with a pulse, the pulse measured and not yet judged. -/
def State.pulsed (s : State) : State := { s.ageBuild with ftu := pulseMeasured s.ftu }

theorem pulsed_eq {s : State} (h : BuildHasTime s) : s.pulsed = { s with ftu := pulseMeasured s.ftu, builder := aged s } := by
  rw [State.pulsed, ageBuild_eq h]

/-- The boundaries outstanding are those of the slots ahead. -/
theorem outstanding_eq (s : State) : s.outstanding = (slotsAhead s.ftu).foldl State.slotEvent s := by
  rw [← slotsDue_none]
  rfl

section Locked

variable {s : State} (hst : s.ftu.state = .locked) (hsm : s.ftu.sampled = false)
include hst hsm

theorem edge_pulse_locked : s.edge true = s.pulsed.edgeLocked true := by
  rw [edge_pulse hsm, hst]
  rfl

theorem edge_glitch (h : s.ftu.count + 1 + s.ftu.inForce.t < s.ftu.inForce.p) :
    s.edge true = s.pulsed.glitchPulse.advance :=
  (edge_pulse_locked hst hsm).trans (if_pos h)

theorem edge_accepted (h : s.ftu.inForce.p ≤ s.ftu.count + 1 + s.ftu.inForce.t) :
    s.edge true = s.pulsed.outstanding.startFrame :=
  (edge_pulse_locked hst hsm).trans (if_neg (Nat.not_lt.2 h))

end Locked

/-- Settles O7. -/
theorem lockedPulseGlitchOrAccepted : Obligations.LockedPulseGlitchOrAccepted := by
  intro s hst hfresh hsm
  refine ⟨fun h u hu => ?_, fun h ht => ?_⟩
  · have hg : FrameGoesOn s := (frameGoesOn_iff hfresh).2 (by
      have := period_le_frameEnd s.ftu
      omega)
    have hcount : u.ftu.count = s.ftu.count + 1 := by
      rw [← (Host.Outcome.next.inj hu : s.edge false = u), edge_ftu_of_goesOn (.inl rfl) hg]
    refine congrArg Host.Outcome.next ?_
    rw [edge_glitch hst hsm h, hcount]
    exact advance_eq_plainEdge (f := { pulseMeasured s.ftu with glitch := min (s.ftu.glitch + 1) 65535 }) hg
      ⟨rfl, rfl, rfl, rfl⟩ hu
  · intro before
    refine ⟨_, congrArg Host.Outcome.next (edge_accepted hst hsm h), ?_, ?_⟩
    · rw [outstanding_eq, pulsed_eq ht]
      rfl
    · rw [startFrame_ftu, outstanding_ftu]
      exact ftu_startFrame_eq hfresh

/-! ### What happens to ports but for slots (R33, R55, R133, R140) -/

/-- A port but for its causes and its ready frame; TIMING is not cleared. -/
def Notified (p q : Port) : Prop :=
  q = { p with causes := q.causes, readyFrame := q.readyFrame } ∧ (p.causes.timing = true → q.causes.timing = true)

theorem Notified.refl (p : Port) : Notified p p := ⟨rfl, id⟩

theorem Notified.trans {p q r : Port} (h : Notified p q) (h' : Notified q r) : Notified p r := by
  refine ⟨?_, h'.2 ∘ h.2⟩
  have h2 := h'.1
  rw [h.1] at h2
  exact h2

theorem Notified.of_eq {p q : Port} (h : q = p) : Notified p q := h ▸ .refl p

theorem notified_evaluated (r c : Bool) (p : Port) : Notified p (p.evaluated r c) := ⟨rfl, id⟩

section Ports

variable (s : State) (l : Link)

theorem notified_presence : Notified (s.port l) (s.presence.port l) := by
  rw [(evaluated_presence s).port]
  exact notified_evaluated _ _ _

theorem notified_startBuild : Notified (s.port l) (s.startBuild.port l) := by
  have hports : s.startBuild.ports = s.presence.ports := by
    simp only [State.startBuild, State.raiseAges, mapOccupants_ports]
  rw [port_congr hports]
  exact notified_presence s l

theorem notified_slotEvent (k : Nat) : Notified (s.port l).countSlot ((s.slotEvent k).port l) := by
  have hcount : (s.mapPorts fun _ p => p.countSlot).port l = (s.port l).countSlot := port_mapPorts _ _ _
  rw [← hcount]
  rcases slotEvent_cases s k with ⟨-, he⟩ | ⟨-, -, he⟩ | ⟨-, -, he⟩ <;> rw [he]
  · exact .refl _
  · exact notified_startBuild { s.mapPorts fun _ p => p.countSlot with windowOpen := false } l
  · exact .refl _

theorem notified_raisePlanReady (frame : Nat) : Notified (s.port l) ((s.raisePlanReady frame).port l) := by
  by_cases h : ∃ k, (s.sector k).state = .present l
  · obtain ⟨k, hk⟩ := h
    rw [raisePlanReady_port_present frame hk]
    exact ⟨rfl, id⟩
  · rw [raisePlanReady_port_other frame (not_exists.1 h)]
    exact .refl _

theorem notified_setQueue (k : SectorId) (q : List Notice) : Notified (s.port l) ((s.setQueue k q).port l) := by
  rw [setQueue_port]
  split
  · exact ⟨rfl, id⟩
  · exact .refl _

theorem notified_repeatLive (frame : Nat) (abandoned : Bool) :
    Notified (s.port l) ((s.repeatLive frame abandoned).port l) := by
  unfold State.repeatLive
  split
  · exact .refl _
  · exact notified_raisePlanReady { s with live := _, next := none } l frame
  · exact notified_raisePlanReady { s with live := _, next := none } l frame

theorem notified_planFrameStart (frame : Nat) : Notified (s.port l) ((s.planFrameStart frame).port l) := by
  unfold State.planFrameStart
  dsimp only
  split
  · split
    · exact .refl _
    · exact notified_repeatLive { s with builder := none } l frame _
  · exact notified_repeatLive { s with builder := none } l frame _

theorem notified_countdown : Notified (s.port l) (s.countdown.port l) := by
  simp only [State.countdown, allSectors, List.foldl_cons, List.foldl_nil]
  exact (Notified.of_eq (port_congr (mapOccupants_ports _ _) l)).trans
    ((notified_setQueue _ l _ _).trans ((notified_setQueue _ l _ _).trans (notified_setQueue _ l _ _)))

/-- A frame start counts slot 0 on every port. -/
theorem notified_startFrame : Notified (s.port l).countSlot (s.startFrame.port l) := by
  have hplan : Notified (s.port l) (s.planStarted.countdown.port l) :=
    (notified_planFrameStart s.frameOpened l s.ftu.nextFrame).trans (notified_countdown _ l)
  have hcount : Notified (s.port l).countSlot (s.planStarted.countdown.port l).countSlot := by
    rw [hplan.1]
    unfold Port.countSlot
    dsimp only
    split <;> exact ⟨rfl, hplan.2⟩
  exact hcount.trans (notified_slotEvent s.planStarted.countdown l 0)

theorem notified_complete : Notified (s.port l) (s.complete.port l) := by
  unfold State.complete
  split
  · exact .refl _
  · next b _ =>
    refine (Notified.of_eq (port_congr ?_ l)).trans (notified_raisePlanReady _ l b.snapshot.frame)
    simp

theorem notified_ageBuild : Notified (s.port l) (s.ageBuild.port l) := by
  unfold State.ageBuild
  split
  · exact .refl _
  · split
    · exact notified_complete s l
    · exact .refl _

end Ports

/-- TIMING is pending on every link. -/
def TimingPending (s : State) : Prop := ∀ l, (s.port l).causes.timing = true

theorem timingPending_relock (s : State) : TimingPending s.relock := fun l => by rw [relock_port]

theorem timingPending_expire (s : State) : TimingPending s.expire := fun l => by rw [expire_port]

theorem TimingPending.slotEvents {s : State} (h : TimingPending s) (ks : List Nat) : TimingPending (s.slotEvents ks) := by
  induction ks generalizing s with
  | nil => exact h
  | cons k ks ih => exact ih fun l => (notified_slotEvent s l k).2 (by rw [countSlot_causes]; exact h l)

theorem TimingPending.advance {s : State} (h : TimingPending s) : TimingPending s.advance :=
  TimingPending.slotEvents (s := { s with ftu := { s.ftu with count := s.ftu.count + 1 } }) h _

theorem TimingPending.startFrame {s : State} (h : TimingPending s) : TimingPending s.startFrame := fun l =>
  (notified_startFrame s l).2 (by rw [countSlot_causes]; exact h l)

/-! ### Pulses in FREE and HOLDOVER (R26, R27) -/

section Free

variable {s : State} (hst : s.ftu.state ≠ .locked) (hsm : s.ftu.sampled = false)
include hst hsm

theorem edge_pulse_free : s.edge true = s.pulsed.edgeFree true := by
  rw [edge_pulse hsm]
  cases h : s.ftu.state with
  | locked => exact absurd h hst
  | free => rfl
  | holdover => rfl

theorem edge_ownStart_pulse (h : s.ftu.fresh = true ∨ s.ftu.inForce.p ≤ s.ftu.count + 1) :
    s.edge true = ({ s.pulsed with ftu := hRaised (pulseMeasured s.ftu) } : State).startFrame.goodPulse s.ftu.inForce.k :=
  (edge_pulse_free hst hsm).trans ((edgeFree_ownStart (s := s.pulsed) h true).trans (if_pos rfl))

variable (hf : s.ftu.fresh = false) (hp : s.ftu.count + 1 < s.ftu.inForce.p)
include hf hp

theorem edge_pulse_inside :
    s.edge true =
      if s.ftu.inForce.p ≤ s.ftu.count + 1 + s.ftu.inForce.t ∧ s.ftu.inForce.k ≤ s.ftu.goodRun + 1 then
        s.pulsed.outstanding.relock.startFrame
      else if s.ftu.count + 1 ≤ s.ftu.inForce.t ∨ s.ftu.inForce.p ≤ s.ftu.count + 1 + s.ftu.inForce.t then
        (s.pulsed.goodPulse s.ftu.inForce.k).advance
      else s.pulsed.strayPulse.advance := by
  have hnot : ¬(s.ftu.fresh = true ∨ s.ftu.inForce.p ≤ s.ftu.count + 1) := by
    rintro (h | h)
    · rw [hf] at h; cases h
    · omega
  exact (edge_pulse_free hst hsm).trans ((if_neg hnot).trans (if_pos rfl))

theorem edge_stray (h : s.ftu.inForce.t < s.ftu.count + 1) (h' : s.ftu.count + 1 + s.ftu.inForce.t < s.ftu.inForce.p) :
    s.edge true = s.pulsed.strayPulse.advance := by
  rw [edge_pulse_inside hst hsm hf hp, if_neg (by omega), if_neg (by omega)]

theorem edge_good (h : s.ftu.count + 1 ≤ s.ftu.inForce.t ∨ s.ftu.inForce.p ≤ s.ftu.count + 1 + s.ftu.inForce.t)
    (hk : s.ftu.goodRun + 1 < s.ftu.inForce.k) :
    s.edge true = ({ s.pulsed with ftu := { pulseMeasured s.ftu with goodRun := s.ftu.goodRun + 1 } } : State).advance := by
  rw [edge_pulse_inside hst hsm hf hp, if_neg (by omega), if_pos h]
  exact congrArg State.advance (if_neg (Nat.not_le.2 hk))

theorem edge_relock (h : s.ftu.count + 1 ≤ s.ftu.inForce.t) (h' : s.ftu.count + 1 + s.ftu.inForce.t < s.ftu.inForce.p)
    (hk : s.ftu.inForce.k ≤ s.ftu.goodRun + 1) : s.edge true = s.pulsed.relock.advance := by
  rw [edge_pulse_inside hst hsm hf hp, if_neg (by omega), if_pos (.inl h)]
  exact congrArg State.advance (if_pos hk)

theorem edge_relock_start (h : s.ftu.inForce.p ≤ s.ftu.count + 1 + s.ftu.inForce.t)
    (hk : s.ftu.inForce.k ≤ s.ftu.goodRun + 1) : s.edge true = s.pulsed.outstanding.relock.startFrame := by
  rw [edge_pulse_inside hst hsm hf hp, if_pos ⟨h, hk⟩]

end Free

/-! ### A relock inside the frame -/

/-- A slot event that starts no build does not read what a relock changes. -/
theorem relock_slotEvent {s : State} {k : Nat} (h : k = s.policy.window.o ∨ k ≠ s.policy.window.w) :
    s.relock.slotEvent k = (s.slotEvent k).relock := by
  have hports : (s.relock.mapPorts fun _ p => p.countSlot).ports = (s.mapPorts fun _ p => p.countSlot).relock.ports := by
    refine PerLink.ext_get fun l => ?_
    show (s.relock.mapPorts fun _ p => p.countSlot).port l = (s.mapPorts fun _ p => p.countSlot).relock.port l
    rw [port_mapPorts, relock_port, relock_port, port_mapPorts]
    unfold Port.countSlot
    dsimp only
    split <;> rfl
  have hmap : (s.relock.mapPorts fun _ p => p.countSlot) = (s.mapPorts fun _ p => p.countSlot).relock := by
    have h1 : (s.relock.mapPorts fun _ p => p.countSlot) =
        { s.relock with ports := (s.relock.mapPorts fun _ p => p.countSlot).ports } := rfl
    rw [h1, hports]
    rfl
  by_cases ho : k = s.policy.window.o
  · rw [slotEvent_of_open ho, slotEvent_of_open (s := s.relock) ho, hmap]
    rfl
  · have hw := h.resolve_left ho
    rw [slotEvent_of_neither ho hw, slotEvent_of_neither (s := s.relock) ho hw, hmap]

theorem relock_slotEvents {s : State} {ks : List Nat} (h : ∀ k ∈ ks, k = s.policy.window.o ∨ k ≠ s.policy.window.w) :
    s.relock.slotEvents ks = (s.slotEvents ks).relock := by
  induction ks generalizing s with
  | nil => rfl
  | cons k ks ih =>
    show (s.relock.slotEvent k).slotEvents ks = ((s.slotEvent k).slotEvents ks).relock
    rw [relock_slotEvent (h k List.mem_cons_self)]
    refine ih fun j hj => ?_
    rw [slotEvent_policy]
    exact h j (List.mem_cons_of_mem k hj)

/-- A relock at an edge on which no build starts is a relock after it. -/
theorem relock_advance {s : State}
    (h : ∀ k, 1 ≤ k → k ≤ 15 → slotCount s.ftu.inForce.p k = s.ftu.count + 1 →
      k = s.policy.window.o ∨ k ≠ s.policy.window.w) :
    s.relock.advance = s.advance.relock := by
  have hslots : ∀ k ∈ slotsDue s.ftu.inForce.p s.ftu.count (some (s.ftu.count + 1)),
      k = s.policy.window.o ∨ k ≠ s.policy.window.w := fun k hk => by
    obtain ⟨⟨h1, h15⟩, hlt, hle⟩ := mem_slotsDue_some.1 hk
    exact h k h1 h15 (by omega)
  exact relock_slotEvents (s := { s with ftu := { s.ftu with count := s.ftu.count + 1 } }) hslots

/-- A relock at the edge at which a build starts comes before it, and the build samples the margin 0 (log entry 8). -/
theorem relock_advance_close {s : State} {k : Nat} (h16 : 16 ≤ s.ftu.inForce.p) (h1 : 1 ≤ k) (h15 : k ≤ 15)
    (hk : slotCount s.ftu.inForce.p k = s.ftu.count + 1) :
    s.relock.advance = ({ s with ftu := { s.ftu with count := s.ftu.count + 1 } } : State).relock.slotEvent k := by
  have hdue : slotsDue s.ftu.inForce.p s.ftu.count (some (s.ftu.count + 1)) = [k] := slotsDue_next h16 ⟨h1, h15⟩ hk
  show State.slotEvents _ (slotsDue s.ftu.inForce.p s.ftu.count (some (s.ftu.count + 1))) = _
  rw [hdue]
  rfl

theorem slotEvent_close_margin {s : State} {k : Nat} (ho : k ≠ s.policy.window.o) (hw : k = s.policy.window.w) :
    ∃ b, (s.slotEvent k).builder = some b ∧ b.snapshot.mh = s.ftu.margin := by
  rw [slotEvent_of_close ho hw]
  refine ⟨_, rfl, ?_⟩
  exact congrArg Ftu.margin (presence_ftu _)

section GoodPulse

variable {s : State} {k : Nat}

theorem goodPulse_run (h : s.ftu.goodRun + 1 < k) :
    s.goodPulse k = { s with ftu := { s.ftu with goodRun := s.ftu.goodRun + 1 } } := if_neg (Nat.not_le.2 h)

theorem goodPulse_relock (h : k ≤ s.ftu.goodRun + 1) : s.goodPulse k = s.relock := if_pos h

end GoodPulse

/-- Settles O8: the cases of R26 and R27 in their order. -/
theorem freePulseStrayGoodOrRelock : Obligations.FreePulseStrayGoodOrRelock := by
  refine ⟨fun s hst hf hsm => ?_, fun s hst hsm ht hc => ?_⟩
  · intro c par atEdge
    have hgoes : c < par.p → FrameGoesOn s := fun h => (frameGoesOn_iff hf).2 (h.trans_le (period_le_frameEnd s.ftu))
    refine ⟨fun h h' u hu => ?stray, fun hp h hk u hu => ?good, fun h h' hk => ?relock, fun hp h hk ht => ?start,
      fun hp => ?ownStart⟩
    case stray =>
      have hp : c < par.p := by omega
      refine congrArg Host.Outcome.next ((edge_stray hst hsm hf hp h h').trans ?_)
      exact advance_eq_plainEdge (f := { pulseMeasured s.ftu with stray := min (s.ftu.stray + 1) 65535, goodRun := 0 })
        (hgoes hp) ⟨rfl, rfl, rfl, rfl⟩ hu
    case good =>
      refine congrArg Host.Outcome.next ((edge_good hst hsm hf hp h hk).trans ?_)
      exact advance_eq_plainEdge (f := { pulseMeasured s.ftu with goodRun := s.ftu.goodRun + 1 })
        (hgoes hp) ⟨rfl, rfl, rfl, rfl⟩ hu
    case relock =>
      have hp : c < par.p := by omega
      have hpolicy : s.pulsed.policy = s.policy := ageBuild_policy s
      intro w
      refine ⟨_, congrArg Host.Outcome.next (edge_relock hst hsm hf hp h h' hk), ?_,
        (timingPending_relock _).advance, fun hopen u hu => ?_, fun h16 h1 h15 hw ho ht => ?_⟩
      · rw [advance_ftu]
        rfl
      · have hcomm : s.pulsed.relock.advance = s.pulsed.advance.relock := relock_advance fun k k1 k15 hk => by
          rw [hpolicy]
          by_cases hkw : k = w
          · exact .inl (hkw.trans (hopen (hkw ▸ k1) (hkw ▸ k15) (hkw ▸ hk)))
          · exact .inr hkw
        have hplain : s.pulsed.advance = { u with ftu := atEdge } :=
          advance_eq_plainEdge (f := pulseMeasured s.ftu) (hgoes hp) ⟨rfl, rfl, rfl, rfl⟩ hu
        rw [hcomm, hplain]
        exact ⟨rfl, relock_port _⟩
      · have hclose : s.pulsed.relock.advance =
            ({ s with ftu := atEdge, builder := aged s } : State).relock.slotEvent w := by
          rw [relock_advance_close (s := s.pulsed) h16 h1 h15 hw, pulsed_eq ht]
          rfl
        rw [hclose]
        exact ⟨rfl, slotEvent_close_margin ho rfl⟩
    case start =>
      intro before
      refine ⟨_, congrArg Host.Outcome.next (edge_relock_start hst hsm hf hp h hk), ?_, ?_,
        (timingPending_relock _).startFrame⟩
      · rw [outstanding_eq, pulsed_eq ht]
        rfl
      · have hftu : s.pulsed.outstanding.relock.ftu = { pulseMeasured s.ftu with state := .locked, h := 0, goodRun := 0 } := by
          show s.pulsed.outstanding.ftu.enter .locked 0 = _
          rw [outstanding_ftu]
          rfl
        rw [startFrame_ftu, hftu]
        exact ftu_startFrame_eq hf
    case ownStart =>
      have hftu : ({ s.pulsed with ftu := hRaised (pulseMeasured s.ftu) } : State).startFrame.ftu =
          frameStarted (hRaised (pulseMeasured s.ftu)) := (startFrame_ftu _).trans (ftu_startFrame_eq hf)
      refine ⟨_, congrArg Host.Outcome.next (edge_ownStart_pulse hst hsm (.inr hp)), fun hk => ?_, fun hk => ⟨?_, ?_⟩⟩
      · rw [goodPulse_run (by rw [hftu]; exact hk)]
        dsimp only
        rw [hftu]
        rfl
      · rw [goodPulse_relock (by rw [hftu]; exact hk)]
        show Ftu.enter (State.startFrame _).ftu .locked 0 = _
        rw [hftu]
        rfl
      · rw [goodPulse_relock (by rw [hftu]; exact hk)]
        exact timingPending_relock _
  · intro u
    have hu : ({ s.pulsed with ftu := hRaised (pulseMeasured s.ftu) } : State).startFrame = u := by rw [pulsed_eq ht]
    have hedge := edge_ownStart_pulse hst hsm hc
    rw [hu] at hedge
    have hftu : u.ftu = (hRaised (pulseMeasured s.ftu)).startFrame := startFrame_ftu _
    refine ⟨fun hk => congrArg Host.Outcome.next (hedge.trans ?_), fun hk => ⟨congrArg Host.Outcome.next (hedge.trans ?_), rfl,
      timingPending_relock u⟩, fun hf => ?_⟩
    · rw [goodPulse_run (by rw [hftu]; exact hk), hftu]
      rfl
    · exact goodPulse_relock (by rw [hftu]; exact hk)
    · rw [hftu]
      exact ⟨rfl, rfl, if_pos hf⟩

end Sys2Proof.Machine
end

section
/-! Proofs of the statements of the rows that stand for quiet edges: how long each run is, and what its last edge does. -/

namespace Sys2Proof.Machine

open Sys2Proof.Safety

/-! ### A run of plain edges inside a frame -/

theorem quietRun_last (n : Nat) (s : State) : quietRun (n + 1) s = (quietRun n s).edge false :=
  Function.iterate_succ_apply' _ n s

theorem timingInRange_quietRun {s : State} (n : Nat) (hs : TimingInRange s) : TimingInRange (quietRun n s) :=
  quietRun_keeps (fun _ level h => timingInRange_edge level h) n hs

theorem countBy_zero {f : Ftu} (h : f.running ≤ maxInterval) : f.countBy 0 = f := by
  simp only [Ftu.countBy, Nat.add_zero, Nat.min_eq_left h, if_true]

theorem countBy_succ (f : Ftu) (n : Nat) :
    ({ quietMeasured (f.countBy n) false with count := (f.countBy n).count + 1 } : Ftu) = f.countBy (n + 1) := by
  simp only [Ftu.countBy, quietMeasured, maxInterval, Ftu.mk.injEq, true_and, and_true]
  refine ⟨by omega, by omega, by simp⟩

/-- Inside a frame a run of plain edges counts, and leaves the policy. -/
theorem quietRun_inside {s : State} {n : Nat} (hs : TimingInRange s) (hf : s.ftu.fresh = false)
    (h : s.ftu.count + n < s.ftu.frameEnd) : (quietRun n s).ftu = s.ftu.countBy n ∧ (quietRun n s).policy = s.policy := by
  induction n with
  | zero => exact ⟨(countBy_zero ((timingInRange_iff s).1 hs).1.running).symm, rfl⟩
  | succ n ih =>
    obtain ⟨hftu, hpolicy⟩ := ih (by omega)
    have hg : FrameGoesOn (quietRun n s) := by
      rw [frameGoesOn_iff (by rw [hftu]; exact hf), hftu]
      exact h
    rw [quietRun_last]
    refine ⟨?_, ?_⟩
    · rw [edge_ftu_of_goesOn (.inl rfl) hg, hftu, countBy_succ]
    · rw [edge_of_goesOn (.inl rfl) hg, advance_policy]
      exact (ageBuild_policy _).trans hpolicy

theorem goesOn_inside {s : State} {n : Nat} (hs : TimingInRange s) (hf : s.ftu.fresh = false) (h : s.ftu.count + n < s.ftu.frameEnd) :
    FrameGoesOn (quietRun n s) ↔ s.ftu.count + n + 1 < s.ftu.frameEnd := by
  obtain ⟨hftu, -⟩ := quietRun_inside hs hf h
  rw [frameGoesOn_iff (by rw [hftu]; exact hf), hftu]
  exact Iff.rfl

/-! ### The slots ahead of a later count -/

/-- Past the boundary of the first slot ahead the others are ahead. -/
theorem slotsAhead_rest {f g : Ftu} {k : Nat} {rest : List Nat} (h16 : 16 ≤ f.inForce.p) (h : slotsAhead f = k :: rest)
    (hset : g.inForce = f.inForce) (hcount : g.count = slotCount f.inForce.p k) : slotsAhead g = rest := by
  have hk : k ∈ slotsAhead f := h ▸ List.mem_cons_self
  obtain ⟨-, hlt⟩ := mem_slotsAhead.1 hk
  have hfilter : slotsAhead g = (slotsAhead f).filter fun j => decide (slotCount f.inForce.p k < slotCount f.inForce.p j) := by
    unfold slotsAhead
    rw [hset, hcount, List.filter_filter]
    refine List.filter_congr fun j _ => ?_
    rw [← Bool.decide_and]
    exact decide_eq_decide.2 ⟨fun hj => ⟨hj, hlt.trans hj⟩, And.left⟩
  have hord := slotsAhead_pairwise f
  rw [h] at hord
  rw [hfilter, h, List.filter_cons_of_neg (by simp), List.filter_eq_self]
  exact fun j hj => decide_eq_true (slotCount_strictMono h16 (List.rel_of_pairwise_cons hord hj))

section Inside

variable {s : State} (hs : TimingInRange s) (hf : s.ftu.fresh = false)
include hs

theorem inForce_ge : 16 ≤ s.ftu.inForce.p := by
  have := ((timingInRange_iff s).1 hs).1.inForce.1.1
  omega

theorem count_lt_frameEnd : s.ftu.count < s.ftu.frameEnd := ((timingInRange_iff s).1 hs).2.2

theorem fresh_of_locked (h : s.ftu.state = .locked) : s.ftu.fresh = false := by
  by_contra hfresh
  have := (((timingInRange_iff s).1 hs).2.1 (by simpa using hfresh)).1
  rw [h] at this
  cases this

include hf

/-- With a slot ahead the next slot boundary comes inside the frame. -/
theorem toNextSlot_inside {k : Nat} {rest : List Nat} (h : slotsAhead s.ftu = k :: rest) :
    s.ftu.quietEdges = slotCount s.ftu.inForce.p k - s.ftu.count ∧ s.ftu.count < slotCount s.ftu.inForce.p k ∧
      slotCount s.ftu.inForce.p k < s.ftu.frameEnd ∧ s.toNextSlot.ftu = s.ftu.countBy s.ftu.quietEdges := by
  have hk : k ∈ slotsAhead s.ftu := h ▸ List.mem_cons_self
  obtain ⟨⟨-, h15⟩, hlt⟩ := mem_slotsAhead.1 hk
  have hend := (slotCount_lt (Nat.lt_of_lt_of_le (by decide) (inForce_ge hs)) h15).trans_le (period_le_frameEnd s.ftu)
  have hedges : s.ftu.quietEdges = slotCount s.ftu.inForce.p k - s.ftu.count := by
    rw [Ftu.quietEdges, hf, if_neg Bool.false_ne_true, nextCount_of_cons h]
    omega
  refine ⟨hedges, hlt, hend, ?_⟩
  rw [toNextSlot_eq_quietRun]
  exact (quietRun_inside hs hf (by omega)).1

/-- With no slot ahead the next slot boundary is that of slot 0, at the frame's end. -/
theorem quietEdges_of_nil (h : slotsAhead s.ftu = []) : s.ftu.quietEdges = s.ftu.frameEnd - s.ftu.count := by
  have := count_lt_frameEnd hs
  rw [Ftu.quietEdges, hf, if_neg Bool.false_ne_true, nextCount_of_nil h]
  omega

end Inside

/-! ### The run up to the next frame start -/

/-- The number of plain edges up to and including the next frame start. -/
def Ftu.edgesLeft (f : Ftu) : Nat := if f.fresh = true then 1 else f.frameEnd - f.count

theorem slotsLeft_eq {f : Ftu} (hf : f.fresh = false) : f.slotsLeft = (slotsAhead f).length + 1 := by
  rw [Ftu.slotsLeft, hf, slotsDue_none]
  rfl

theorem iterate_toNextSlot {s : State} {slots : List Nat} (hs : TimingInRange s) (hf : s.ftu.fresh = false)
    (h : slotsAhead s.ftu = slots) :
    State.toNextSlot^[slots.length + 1] s = quietRun (s.ftu.frameEnd - s.ftu.count) s := by
  induction slots generalizing s with
  | nil =>
    show s.toNextSlot = _
    rw [toNextSlot_eq_quietRun, quietEdges_of_nil hs hf h]
  | cons k rest ih =>
    obtain ⟨hedges, hlt, hend, hftu⟩ := toNextSlot_inside hs hf h
    have hcount : s.toNextSlot.ftu.count = slotCount s.ftu.inForce.p k := by
      rw [hftu, hedges]
      show s.ftu.count + (slotCount s.ftu.inForce.p k - s.ftu.count) = _
      omega
    have hset : s.toNextSlot.ftu.inForce = s.ftu.inForce := by rw [hftu]; rfl
    have hfe : s.toNextSlot.ftu.frameEnd = s.ftu.frameEnd := by rw [hftu]; rfl
    have hrun : s.toNextSlot = quietRun (slotCount s.ftu.inForce.p k - s.ftu.count) s := by
      rw [toNextSlot_eq_quietRun, hedges]
    rw [List.length_cons, Function.iterate_succ_apply,
      ih (by rw [toNextSlot_eq_quietRun]; exact timingInRange_quietRun _ hs) (by rw [hftu]; exact hf)
        (slotsAhead_rest (inForce_ge hs) h hset hcount), hcount, hfe, hrun, ← quietRun_add]
    congr 1
    omega

/-- FRAME_START's stretch, with the timing values in range. -/
theorem toNextFrame_eq_edgesLeft {s : State} (hs : TimingInRange s) : s.toNextFrame = quietRun s.ftu.edgesLeft s := by
  unfold State.toNextFrame Ftu.edgesLeft
  split
  · next hf =>
    rw [show s.ftu.slotsLeft = 1 from if_pos hf]
    show s.toNextSlot = _
    rw [toNextSlot_eq_quietRun, show s.ftu.quietEdges = 1 from if_pos hf]
  · next hf =>
    have hf : s.ftu.fresh = false := by simpa using hf
    rw [slotsLeft_eq hf]
    exact iterate_toNextSlot hs hf rfl

theorem edgesLeft_pos {s : State} (hs : TimingInRange s) : 1 ≤ s.ftu.edgesLeft := by
  have := count_lt_frameEnd hs
  unfold Ftu.edgesLeft
  split <;> omega

/-- Up to the last edge of the run the frame goes on, and on the last it does not. -/
theorem goesOn_edgesLeft {s : State} (hs : TimingInRange s) :
    (∀ m, m + 1 < s.ftu.edgesLeft → FrameGoesOn (quietRun m s)) ∧ ¬FrameGoesOn (quietRun (s.ftu.edgesLeft - 1) s) := by
  have hlt := count_lt_frameEnd hs
  unfold Ftu.edgesLeft
  split
  · next hf =>
    refine ⟨fun m hm => by omega, fun hg => ?_⟩
    have hfresh := hg.1
    rw [show quietRun (1 - 1) s = s from rfl, hf] at hfresh
    cases hfresh
  · next hf =>
    have hf : s.ftu.fresh = false := by simpa using hf
    refine ⟨fun m hm => (goesOn_inside hs hf (by omega)).2 (by omega), fun hg => ?_⟩
    have := (goesOn_inside hs hf (by omega)).1 hg
    omega

/-! ### The edge that starts a frame -/

/-- The FTU after the missed expiry. -/
theorem edge_expiry_ftu {s : State} {level : Bool} (hp : NoPulse s level) (hs : s.ftu.state = .locked)
    (hf : s.ftu.fresh = false) (h : s.ftu.inForce.p + s.ftu.inForce.t ≤ s.ftu.count + 1) :
    (s.edge level).ftu = frameStarted { quietMeasured s.ftu level with
      state := .holdover, h := 1, goodRun := 0, missed := min (s.ftu.missed + 1) 65535 } := by
  rw [edge_of_expiry hp hs h, startFrame_ftu]
  have hftu : ({ s.ageBuild with ftu := quietMeasured s.ftu level } : State).outstanding.expire.ftu =
      { quietMeasured s.ftu level with
        state := .holdover, h := 1, goodRun := 0, missed := min (s.ftu.missed + 1) 65535 } := by
    unfold State.expire
    rw [raiseTiming_ftu, outstanding_ftu]
    rfl
  rw [hftu]
  exact ftu_startFrame_eq hf

theorem edge_expiry_timing {s : State} {level : Bool} (hp : NoPulse s level) (hs : s.ftu.state = .locked)
    (h : s.ftu.inForce.p + s.ftu.inForce.t ≤ s.ftu.count + 1) : TimingPending (s.edge level) := by
  rw [edge_of_expiry hp hs h]
  exact (timingPending_expire _).startFrame

/-- The FTU after a frame start on its own count. -/
theorem edge_ownStart_ftu {s : State} {level : Bool} (hp : NoPulse s level) (hs : s.ftu.state ≠ .locked)
    (h : s.ftu.fresh = true ∨ s.ftu.inForce.p ≤ s.ftu.count + 1) :
    (s.edge level).ftu = (hRaised (quietMeasured s.ftu level)).startFrame := by
  rw [edge_of_ownStart hp hs h, startFrame_ftu]

theorem edge_ownStart_policy {s : State} {level : Bool} (hp : NoPulse s level) (hs : s.ftu.state ≠ .locked)
    (h : s.ftu.fresh = true ∨ s.ftu.inForce.p ≤ s.ftu.count + 1) : (s.edge level).policy = s.policy.applyWindow := by
  rw [edge_of_ownStart hp hs h, startFrame_policy]
  exact congrArg Policy.applyWindow (ageBuild_policy s)

/-- An edge without a pulse on which the frame does not go on starts a frame. -/
theorem edge_of_not_goesOn {s : State} {level : Bool} (hp : NoPulse s level) (hs : TimingInRange s) (hg : ¬FrameGoesOn s) :
    (s.edge level).ftu.count = 0 ∧ (s.edge level).ftu.fresh = false := by
  by_cases hst : s.ftu.state = .locked
  · have hf := fresh_of_locked hs hst
    rw [frameGoesOn_iff hf, Ftu.frameEnd, if_pos hst] at hg
    rw [edge_expiry_ftu hp hst hf (by omega)]
    exact ⟨rfl, hf⟩
  · have hc : s.ftu.fresh = true ∨ s.ftu.inForce.p ≤ s.ftu.count + 1 := by
      by_cases hf : s.ftu.fresh = true
      · exact .inl hf
      · rw [frameGoesOn_iff (by simpa using hf), Ftu.frameEnd, if_neg hst] at hg
        exact .inr (by omega)
    rw [edge_ownStart_ftu hp hst hc]
    exact ⟨rfl, rfl⟩

/-- The last edge of the run up to a frame start. -/
theorem toNextFrame_last {s : State} (hs : TimingInRange s) :
    s.toNextFrame = (quietRun (s.ftu.edgesLeft - 1) s).edge false := by
  rw [toNextFrame_eq_edgesLeft hs, ← quietRun_last, Nat.sub_add_cancel (edgesLeft_pos hs)]

/-- The FTU before the last edge of the run up to a frame start. -/
theorem quietRun_edgesLeft_ftu {s : State} (hs : TimingInRange s) (hf : s.ftu.fresh = false) :
    (quietRun (s.ftu.edgesLeft - 1) s).ftu = s.ftu.countBy (s.ftu.frameEnd - s.ftu.count - 1) ∧
      (quietRun (s.ftu.edgesLeft - 1) s).policy = s.policy := by
  have := count_lt_frameEnd hs
  rw [show s.ftu.edgesLeft = s.ftu.frameEnd - s.ftu.count from if_neg (by rw [hf]; exact Bool.false_ne_true)]
  exact quietRun_inside hs hf (by omega)

theorem running_last (f : Ftu) {n : Nat} (hn : 1 ≤ n) :
    min (min (f.running + (n - 1)) maxInterval + 1) 1048575 = min (f.running + n) 1048575 := by
  unfold maxInterval
  omega

/-- Settles O9. -/
theorem missedExpiryEntersHoldover : Obligations.MissedExpiryEntersHoldover := by
  refine ⟨fun s hst hs => ?_, fun s level hst hp ht h => ?_⟩
  · have hf := fresh_of_locked hs hst
    have hlt := count_lt_frameEnd hs
    have hend : s.ftu.frameEnd = s.ftu.inForce.p + s.ftu.inForce.t := if_pos hst
    obtain ⟨hftu, -⟩ := quietRun_edgesLeft_ftu hs hf
    rw [hend] at hlt hftu
    have hst' : (quietRun (s.ftu.edgesLeft - 1) s).ftu.state = .locked := by rw [hftu]; exact hst
    have hc : (quietRun (s.ftu.edgesLeft - 1) s).ftu.inForce.p + (quietRun (s.ftu.edgesLeft - 1) s).ftu.inForce.t ≤
        (quietRun (s.ftu.edgesLeft - 1) s).ftu.count + 1 := by
      rw [hftu]
      show s.ftu.inForce.p + s.ftu.inForce.t ≤
        s.ftu.count + (s.ftu.inForce.p + s.ftu.inForce.t - s.ftu.count - 1) + 1
      omega
    refine ⟨s.toNextFrame, by simp only [exec, execMissedExpiry, hst], ?_, ?_⟩
    · rw [toNextFrame_last hs, edge_expiry_ftu (.inl rfl) hst' (by rw [hftu]; exact hf) hc, hftu,
        ← running_last s.ftu (n := s.ftu.inForce.p + s.ftu.inForce.t - s.ftu.count) (by omega)]
      rfl
    · rw [toNextFrame_last hs]
      exact edge_expiry_timing (.inl rfl) hst' hc
  · intro before ended expired
    refine congrArg Host.Outcome.next ?_
    have hended : ({ s.ageBuild with ftu := quietMeasured s.ftu level } : State).outstanding = ended := by
      rw [outstanding_eq, ageBuild_eq ht]
      rfl
    have hftu : ended.ftu = quietMeasured s.ftu level := by rw [← hended, outstanding_ftu]
    rw [edge_of_expiry hp hst h, hended, State.expire, hftu]
    rfl

/-- Settles O10. -/
theorem frameStartsOnOwnCount : Obligations.FrameStartsOnOwnCount := by
  refine ⟨fun s hst hs => ?_, fun s level hst hp ht h => ?_⟩
  · refine ⟨s.toNextFrame, rfl, ?_⟩
    by_cases hf : s.ftu.fresh = true
    · have hrun : s.toNextFrame = s.edge false := by
        rw [toNextFrame_last hs, show s.ftu.edgesLeft = 1 from if_pos hf]
        rfl
      rw [hrun]
      refine ⟨edge_ownStart_policy (.inl rfl) hst (.inl hf), fun h => absurd (hf.symm.trans h) (by decide), fun _ => ?_⟩
      have hhold : s.ftu.state ≠ .holdover := by
        rw [(((timingInRange_iff s).1 hs).2.1 hf).1]
        decide
      rw [edge_ownStart_ftu (.inl rfl) hst (.inl hf)]
      simp [hRaised, quietMeasured, Ftu.startFrame, Ftu.nextFrame, frameStarted, hf, hhold]
    · have hf : s.ftu.fresh = false := by simpa using hf
      have hlt := count_lt_frameEnd hs
      have hend : s.ftu.frameEnd = s.ftu.inForce.p := if_neg hst
      obtain ⟨hftu, hpolicy⟩ := quietRun_edgesLeft_ftu hs hf
      rw [hend] at hlt hftu
      have hst' : (quietRun (s.ftu.edgesLeft - 1) s).ftu.state ≠ .locked := by rw [hftu]; exact hst
      have hc : (quietRun (s.ftu.edgesLeft - 1) s).ftu.inForce.p ≤ (quietRun (s.ftu.edgesLeft - 1) s).ftu.count + 1 := by
        rw [hftu]
        show s.ftu.inForce.p ≤ s.ftu.count + (s.ftu.inForce.p - s.ftu.count - 1) + 1
        omega
      rw [toNextFrame_last hs]
      refine ⟨?_, fun _ => ?_, fun h => absurd (hf.symm.trans h) (by decide)⟩
      · rw [edge_ownStart_policy (.inl rfl) hst' (.inr hc), hpolicy]
        rfl
      · rw [edge_ownStart_ftu (.inl rfl) hst' (.inr hc), ftu_startFrame_eq (by rw [hftu]; exact hf), hftu,
          ← running_last s.ftu (n := s.ftu.inForce.p - s.ftu.count) (by omega)]
        rfl
  · refine congrArg Host.Outcome.next ?_
    rw [edge_of_ownStart hp hst h, ageBuild_eq ht]

/-- Settles O11. -/
theorem timingRowsAreQuietEdges : Obligations.TimingRowsAreQuietEdges := by
  refine ⟨fun _ => rfl, fun _ => rfl, fun s => ⟨⟨s.toNextSlot, rfl, toNextSlot_eq_quietRun s, quietEdges_pos _, fun hs =>
    ⟨fun hf k rest h => ?slot, fun h => ?frame⟩⟩, ?start, fun hst => by simp only [exec, execMissedExpiry, hst, execFrameStart],
    fun i => ?move, fun l bits => execHoldTimeout_eq_quietRun l bits s⟩⟩
  case slot =>
    obtain ⟨hedges, hlt, hend, hftu⟩ := toNextSlot_inside hs hf h
    have hcount : s.toNextSlot.ftu.count = slotCount s.ftu.inForce.p k := by
      rw [hftu, hedges]
      show s.ftu.count + (slotCount s.ftu.inForce.p k - s.ftu.count) = _
      omega
    exact ⟨hcount, by rw [hftu]; rfl, slotsAhead_rest (inForce_ge hs) h (by rw [hftu]; rfl) hcount⟩
  case frame =>
    have hrun : s.toNextSlot = s.toNextFrame := by
      rw [toNextSlot_eq_quietRun, toNextFrame_eq_edgesLeft hs]
      congr 1
      unfold Ftu.edgesLeft
      by_cases hf : s.ftu.fresh = true
      · rw [if_pos hf]
        exact if_pos hf
      · rw [if_neg hf]
        exact quietEdges_of_nil hs (by simpa using hf) (h.resolve_right hf)
    rw [hrun, toNextFrame_last hs]
    exact edge_of_not_goesOn (.inl rfl) (timingInRange_quietRun _ hs) (goesOn_edgesLeft hs).2
  case start =>
    by_cases hs : TimingInRange s
    · exact ⟨s.ftu.edgesLeft, edgesLeft_pos hs, congrArg Host.Outcome.next (toNextFrame_eq_edgesLeft hs),
        fun _ => goesOn_edgesLeft hs⟩
    · obtain ⟨n, hn, hrun⟩ := toNextFrame_eq_quietRun s
      exact ⟨n, hn, congrArg Host.Outcome.next hrun, fun h => absurd h hs⟩
  case move =>
    obtain ⟨n, hn⟩ := toMoveEnd_eq_quietRun i (framesLeft s i) s
    exact ⟨n, congrArg Host.Outcome.next hn⟩

end Sys2Proof.Machine
end

section
/-! Proofs of the statements of moves in time (R147, R149): what a frame start does to a move, and how a move that is left
alone ends. -/

namespace Sys2Proof.Machine

open Sys2Proof.Safety

/-! ### The countdown at a frame start (R147) -/

section SlotZero

variable {s : State} (hw : 1 ≤ s.policy.applyWindow.window.w)
include hw

/-- Slot 0 starts no build, so a frame start does to the records and the queues what the countdown does. -/
theorem startFrame_countdown : ∃ ports windowOpen,
    s.startFrame = { s.planStarted.countdown with ports := ports, windowOpen := windowOpen } := by
  rw [startFrame_eq]
  obtain ⟨-, he⟩ | ⟨-, hclose, -⟩ | ⟨-, -, he⟩ := slotEvent_cases s.planStarted.countdown 0
  · exact ⟨_, _, he⟩
  · exact absurd hclose (zero_ne_close hw)
  · exact ⟨_, _, he⟩

theorem startFrame_record (i : RecIdx) :
    s.startFrame.record i =
      { generation := (s.record i).generation, occupant := (s.occupant i).map Occupant.countdown } := by
  obtain ⟨ports, windowOpen, he⟩ := startFrame_countdown hw
  have htable : s.planStarted.table = s.table := planFrameStart_table _ _
  rw [he]
  show s.planStarted.countdown.record i = _
  rw [countdown_record, State.occupant, record_congr htable]
  rfl

theorem startFrame_occupant (i : RecIdx) : s.startFrame.occupant i = (s.occupant i).map Occupant.countdown := by
  rw [State.occupant, startFrame_record hw]

theorem startFrame_queue (k : SectorId) : s.startFrame.queue k = countdownQueue s (s.queue k) := by
  obtain ⟨ports, windowOpen, he⟩ := startFrame_countdown hw
  have htable : s.planStarted.table = s.table := planFrameStart_table _ _
  have hqueue : s.planStarted.queue k = s.queue k := queue_congr (planFrameStart_queues _ _) k
  have hexpires : ∀ i, expiresNow s.planStarted i = expiresNow s i := fun i => by
    unfold expiresNow
    rw [occupant_congr htable]
  rw [he]
  show s.planStarted.countdown.queue k = _
  rw [countdown_queue, hqueue, countdownQueue, countdownQueue]
  simp only [hexpires]

theorem startFrame_sectors : s.startFrame.sectors = s.sectors := by
  obtain ⟨ports, windowOpen, he⟩ := startFrame_countdown hw
  rw [he]
  exact (countdown_sectors _).trans (planFrameStart_sectors _ _)

end SlotZero

theorem countdown_of_still {o : Occupant} (h : o.attachment.move? = none) : o.countdown = o := by
  unfold Occupant.countdown
  cases ha : o.attachment with
  | unbound => rfl
  | active => rfl
  | moving => rw [ha] at h; cases h

theorem countdown_of_expiring {o : Occupant} {k target : SectorId} {h n : Nat} (ha : o.attachment = .moving k h target n)
    (hn : n ≤ 1) : o.countdown = { o with attachment := .active k h, lapse := some target } := by
  simp only [Occupant.countdown, ha]
  exact if_pos hn

theorem countdown_of_moving {o : Occupant} {k target : SectorId} {h n : Nat} (ha : o.attachment = .moving k h target n)
    (hn : 1 < n) : o.countdown = { o with attachment := .moving k h target (n - 1) } := by
  simp only [Occupant.countdown, ha]
  exact if_neg (by omega)

/-- Settles O12. -/
theorem movesCountDownAtFrameStart : Obligations.MovesCountDownAtFrameStart := by
  intro s hpending hforce
  have hw := applyWindow_close_pos hpending hforce
  refine ⟨fun i o ho => ?_, fun i => by rw [startFrame_record hw], startFrame_queue hw⟩
  rw [startFrame_occupant hw, ho, Option.map_some]
  refine ⟨fun h => by rw [countdown_of_still h], fun k h target n ha => ⟨fun hn => ?_, fun hn => ?_⟩⟩
  · rw [countdown_of_expiring ha hn]
  · rw [countdown_of_moving ha hn]

/-! ### A move left alone (R147, R149) -/

/-- A move of a record: where it is, its occupant, and from where to where it moves. -/
structure MoveRef where
  index : RecIdx
  generation : Nat
  id : Nat
  terms : Terms
  source : SectorId
  handle : Nat
  target : SectorId

/-- The record has its occupant, attached as said. -/
def MoveRef.Attached (r : MoveRef) (a : Attachment) (s : State) : Prop :=
  (s.record r.index).generation = r.generation ∧
    ∃ o, s.occupant r.index = some o ∧ o.attachment = a ∧ o.id = r.id ∧ o.terms = r.terms

/-- The record is MOVING with `n` frames remaining. -/
def MoveRef.Going (r : MoveRef) (n : Nat) : State → Prop := r.Attached (.moving r.source r.handle r.target n)

/-- The move was cancelled because the target fell silent; the target stays so until it has a batch (R79, R149). -/
def MoveRef.Cancelled (r : MoveRef) (s : State) : Prop :=
  r.Attached (.active r.source r.handle) s ∧ (s.sector r.target).state.isPresent = false ∧
    (s.sector r.target).batchSeen = false

/-- The move goes on with `n` frames remaining, or was cancelled. -/
def MoveRef.Running (r : MoveRef) (n : Nat) (s : State) : Prop := r.Going n s ∨ r.Cancelled s

/-- Each record's attachment, id and terms, and its generation, are kept; and so are a sector's state and flag. -/
structure KeepsMoves (s u : State) : Prop where
  generation : ∀ i, (u.record i).generation = (s.record i).generation
  occupant : ∀ i o, s.occupant i = some o →
    ∃ o', u.occupant i = some o' ∧ o'.attachment = o.attachment ∧ o'.id = o.id ∧ o'.terms = o.terms
  sector : ∀ k, (u.sector k).state = (s.sector k).state ∧ (u.sector k).batchSeen = (s.sector k).batchSeen

theorem KeepsMoves.of_same {s u : State} (ht : u.table = s.table) (hv : u.sectors = s.sectors) : KeepsMoves s u where
  generation i := by rw [record_congr ht]
  occupant i o ho := ⟨o, by rw [occupant_congr ht, ho], rfl, rfl, rfl⟩
  sector k := by rw [sector_congr hv]; exact ⟨rfl, rfl⟩

theorem KeepsMoves.trans {s u w : State} (h : KeepsMoves s u) (h' : KeepsMoves u w) : KeepsMoves s w where
  generation i := (h'.generation i).trans (h.generation i)
  occupant i o ho := by
    obtain ⟨o1, ho1, ha1, hid1, ht1⟩ := h.occupant i o ho
    obtain ⟨o2, ho2, ha2, hid2, ht2⟩ := h'.occupant i o1 ho1
    exact ⟨o2, ho2, ha2.trans ha1, hid2.trans hid1, ht2.trans ht1⟩
  sector k := ⟨(h'.sector k).1.trans (h.sector k).1, (h'.sector k).2.trans (h.sector k).2⟩

/-- Records whose measures alone change keep their moves. -/
theorem KeepsMoves.of_map {s : State} {f : RecIdx → Occupant → Occupant}
    (hf : ∀ i o, (f i o).attachment = o.attachment ∧ (f i o).id = o.id ∧ (f i o).terms = o.terms) :
    KeepsMoves s (s.mapOccupants f) where
  generation i := by rw [record_mapOccupants]
  occupant i o ho := ⟨f i o, by rw [occupant_mapOccupants, ho, Option.map_some], hf i o⟩
  sector k := by rw [sector_congr (mapOccupants_sectors s f)]; exact ⟨rfl, rfl⟩

theorem keepsMoves_commitHeads (s : State) (w : Work) : KeepsMoves s (s.commitHeads w) where
  generation _ := rfl
  occupant i o ho := ⟨o, ho, rfl, rfl, rfl⟩
  sector k := by rw [sector_commitHeads]; exact ⟨rfl, rfl⟩

theorem keepsMoves_commitCredits (s : State) (snap : Snapshot) (w : Work) : KeepsMoves s (s.commitCredits snap w) :=
  .of_map fun i o => by
    split
    · split <;> exact ⟨rfl, rfl, rfl⟩
    · exact ⟨rfl, rfl, rfl⟩

theorem keepsMoves_raiseAges (s : State) : KeepsMoves s s.raiseAges :=
  .of_map fun i o => by split <;> exact ⟨rfl, rfl, rfl⟩

theorem keepsMoves_complete (s : State) : KeepsMoves s s.complete := by
  unfold State.complete
  split
  · exact .of_same rfl rfl
  · exact (KeepsMoves.of_same rfl rfl).trans ((keepsMoves_commitCredits _ _ _).trans
      ((keepsMoves_commitHeads _ _).trans (.of_same (raisePlanReady_table _ _) (raisePlanReady_sectors _ _))))

theorem keepsMoves_ageBuild (s : State) : KeepsMoves s s.ageBuild := by
  unfold State.ageBuild
  split
  · exact .of_same rfl rfl
  · split
    · exact keepsMoves_complete s
    · exact .of_same rfl rfl

section Running

variable {r : MoveRef} {n : Nat} {s : State}

theorem MoveRef.Attached.keep {a : Attachment} (h : r.Attached a s) {u : State} (hu : KeepsMoves s u) : r.Attached a u := by
  obtain ⟨hg, o, ho, ha, hid, ht⟩ := h
  obtain ⟨o', ho', ha', hid', ht'⟩ := hu.occupant _ _ ho
  exact ⟨(hu.generation _).trans hg, o', ho', ha'.trans ha, hid'.trans hid, ht'.trans ht⟩

theorem MoveRef.Cancelled.keep (h : r.Cancelled s) {u : State} (hu : KeepsMoves s u) : r.Cancelled u := by
  obtain ⟨ha, hp, hb⟩ := h
  obtain ⟨hs, hb'⟩ := hu.sector r.target
  exact ⟨ha.keep hu, by rw [hs, hp], by rw [hb', hb]⟩

theorem MoveRef.Running.keep (h : r.Running n s) {u : State} (hu : KeepsMoves s u) : r.Running n u :=
  h.imp (·.keep hu) (·.keep hu)

/-- Presence evaluation of a sector that is not PRESENT and has no batch leaves it so. -/
theorem stays_silent {v : Sector} (m : Nat) (hp : v.state.isPresent = false) (hb : v.batchSeen = false) :
    (v.evaluated m).state.isPresent = false ∧ (v.evaluated m).batchSeen = false := by
  rcases Option.eq_none_or_eq_some v.state.link? with h | ⟨l, h⟩
  · rw [evaluated_of_noLink m h]
    exact ⟨hp, hb⟩
  · rw [evaluated_of_link m h]
    refine ⟨?_, rfl⟩
    show (v.stateAfter m).isPresent = false
    unfold Sector.stateAfter
    cases hs : v.state with
    | present => rw [hs] at hp; cases hp
    | _ => simp [hb, SectorState.isPresent]

/-- A sector that falls silent has no batch. -/
theorem falls_silent {v : Sector} {m : Nat} (h : v.fallsSilent m = true) :
    (v.evaluated m).state.isPresent = false ∧ (v.evaluated m).batchSeen = false := by
  simp only [Sector.fallsSilent, Bool.and_eq_true, Bool.not_eq_true'] at h
  obtain ⟨hp, hafter⟩ := h
  refine ⟨by rw [evaluated_state, hafter], ?_⟩
  cases hs : v.state with
  | present l => rw [evaluated_of_link m (show v.state.link? = some l by rw [hs]; rfl)]
  | _ => rw [hs] at hp; cases hp

theorem MoveRef.Attached.presence {a : Attachment} (h : r.Attached a s) :
    r.Attached (a.settleIf fun j => (s.sector j).fallsSilent s.policy.m) s.presence := by
  obtain ⟨hg, o, ho, ha, hid, ht⟩ := h
  refine ⟨((evaluated_presence s).generation _).trans hg,
    o.settleIf fun j => (s.sector j).fallsSilent s.policy.m, by rw [occupant_presence, ho, Option.map_some], ?_, hid, ht⟩
  rw [← ha]
  rfl

/-- Presence evaluation ends a move when its target falls silent (R80, R149). -/
theorem MoveRef.Running.presence (h : r.Running n s) : r.Running n s.presence := by
  rcases h with h | ⟨ha, hp, hb⟩
  · have hmove := MoveRef.Attached.presence h
    cases hf : (s.sector r.target).fallsSilent s.policy.m with
    | false =>
      refine .inl (?_ : r.Attached (.moving r.source r.handle r.target n) _)
      simpa [Attachment.settleIf, hf] using hmove
    | true =>
      refine .inr ⟨by simpa [Attachment.settleIf, hf] using hmove, ?_⟩
      rw [sector_presence]
      exact falls_silent hf
  · refine .inr ⟨by simpa [Attachment.settleIf] using MoveRef.Attached.presence ha, ?_⟩
    rw [sector_presence]
    exact stays_silent s.policy.m hp hb

theorem MoveRef.Running.withBuilder (h : r.Running n s) (b : Option Build) : r.Running n { s with builder := b } :=
  h.keep (.of_same rfl rfl)

theorem MoveRef.Running.withFtu (h : r.Running n s) (f : Ftu) : r.Running n { s with ftu := f } :=
  h.keep (.of_same rfl rfl)

theorem MoveRef.Running.withWindowOpen (h : r.Running n s) (b : Bool) : r.Running n { s with windowOpen := b } :=
  h.keep (.of_same rfl rfl)

theorem MoveRef.Running.startBuild (h : r.Running n s) : r.Running n s.startBuild :=
  (h.presence.keep (keepsMoves_raiseAges _)).withBuilder _

theorem MoveRef.Running.slotEvent (h : r.Running n s) (k : Nat) : r.Running n (s.slotEvent k) := by
  have hcount : r.Running n (s.mapPorts fun _ p => p.countSlot) := h.keep (.of_same rfl rfl)
  rcases slotEvent_cases s k with ⟨-, he⟩ | ⟨-, -, he⟩ | ⟨-, -, he⟩ <;> rw [he]
  · exact hcount.withWindowOpen true
  · exact (hcount.withWindowOpen false).startBuild
  · exact hcount

theorem MoveRef.Running.slotEvents (h : r.Running n s) (ks : List Nat) : r.Running n (s.slotEvents ks) := by
  induction ks generalizing s with
  | nil => exact h
  | cons k ks ih => exact ih (h.slotEvent k)

/-- An edge on which the frame goes on. -/
theorem MoveRef.Running.goesOn (h : r.Running n s) {level : Bool} (hp : NoPulse s level) (hg : FrameGoesOn s) :
    r.Running n (s.edge level) := by
  rw [edge_of_goesOn hp hg]
  exact (((h.keep (keepsMoves_ageBuild s)).withFtu _).withFtu _).slotEvents _

/-- The record is back in its source, its lapse mark naming the target (R147). -/
def MoveRef.Lapsed (r : MoveRef) (s : State) : Prop :=
  (s.record r.index).generation = r.generation ∧
    ∃ o, s.occupant r.index = some o ∧ o.attachment = .active r.source r.handle ∧ o.id = r.id ∧ o.terms = r.terms ∧
      o.lapse = some r.target

section FrameStart

variable (hw : 1 ≤ s.policy.applyWindow.window.w)
include hw

/-- A frame start takes a frame from a move, ends it at its last, and leaves a cancelled one. -/
theorem MoveRef.Running.startFrame (h : r.Running n s) :
    (1 < n ∧ r.Going (n - 1) s.startFrame) ∨ (n ≤ 1 ∧ r.Lapsed s.startFrame) ∨ r.Cancelled s.startFrame := by
  have hocc := startFrame_occupant hw r.index
  have hgen : (s.startFrame.record r.index).generation = (s.record r.index).generation := by rw [startFrame_record hw]
  rcases h with ⟨hg, o, ho, ha, hid, ht⟩ | ⟨⟨hg, o, ho, ha, hid, ht⟩, hsec⟩
  · rw [ho, Option.map_some] at hocc
    rcases Nat.lt_or_ge 1 n with hn | hn
    · rw [countdown_of_moving ha hn] at hocc
      exact .inl ⟨hn, hgen.trans hg, _, hocc, rfl, hid, ht⟩
    · rw [countdown_of_expiring ha hn] at hocc
      exact .inr (.inl ⟨hn, hgen.trans hg, _, hocc, rfl, hid, ht, rfl⟩)
  · rw [ho, Option.map_some, countdown_of_still (by rw [ha]; rfl)] at hocc
    refine .inr (.inr ⟨⟨hgen.trans hg, o, hocc, ha, hid, ht⟩, ?_⟩)
    rw [sector_congr (startFrame_sectors hw)]
    exact hsec

end FrameStart

end Running

/-! ### The edge that starts a frame -/

/-- An edge without a pulse that ends a frame is slot boundaries and the frame start. -/
theorem MoveRef.Running.ends {r : MoveRef} {n : Nat} {s : State} {level : Bool} (hp : NoPulse s level)
    (hs : TimingInRange s) (hwin : s.policy.windowsOk) (hg : ¬FrameGoesOn s) (h : r.Running n s) :
    (1 < n ∧ r.Going (n - 1) (s.edge level)) ∨ (n ≤ 1 ∧ r.Lapsed (s.edge level)) ∨ r.Cancelled (s.edge level) := by
  have haged : r.Running n s.ageBuild := h.keep (keepsMoves_ageBuild s)
  have hw : ∀ {u : State}, u.policy = s.policy → 1 ≤ u.policy.applyWindow.window.w := fun hu => by
    rw [hu]
    have := hwin.applyWindow.1
    unfold windowOk at this
    omega
  by_cases hst : s.ftu.state = .locked
  · have hf := fresh_of_locked hs hst
    rw [frameGoesOn_iff hf, Ftu.frameEnd, if_pos hst] at hg
    rw [edge_of_expiry hp hst (by omega)]
    refine MoveRef.Running.startFrame (hw ?_) ?_
    · rw [expire_policy, outstanding_policy]
      exact ageBuild_policy s
    · exact ((haged.withFtu _).slotEvents _).keep (.of_same (expire_table _) (expire_sectors _))
  · have hc : s.ftu.fresh = true ∨ s.ftu.inForce.p ≤ s.ftu.count + 1 := by
      by_cases hf : s.ftu.fresh = true
      · exact .inl hf
      · rw [frameGoesOn_iff (by simpa using hf), Ftu.frameEnd, if_neg hst] at hg
        exact .inr (by omega)
    rw [edge_of_ownStart hp hst hc]
    exact MoveRef.Running.startFrame (hw (ageBuild_policy s)) (haged.withFtu _)

/-! ### Frame after frame -/

/-- Inside a frame a move goes on or was cancelled. -/
theorem MoveRef.Running.inside {r : MoveRef} {n : Nat} {s : State} (hs : TimingInRange s) (h : r.Running n s) {m : Nat}
    (hm : m < s.ftu.edgesLeft) : r.Running n (quietRun m s) := by
  induction m with
  | zero => exact h
  | succ m ih =>
    rw [quietRun_last]
    exact (ih (by omega)).goesOn (.inl rfl) ((goesOn_edgesLeft hs).1 m hm)

theorem MoveRef.Running.atNextFrame {r : MoveRef} {n : Nat} {s : State} (hs : TimingInRange s) (hwin : s.policy.windowsOk)
    (h : r.Running n s) :
    (1 < n ∧ r.Going (n - 1) s.toNextFrame) ∨ (n ≤ 1 ∧ r.Lapsed s.toNextFrame) ∨ r.Cancelled s.toNextFrame := by
  have hpos := edgesLeft_pos hs
  have hlast : r.Running n (quietRun (s.ftu.edgesLeft - 1) s) := h.inside hs (by omega)
  have hwin' : (quietRun (s.ftu.edgesLeft - 1) s).policy.windowsOk :=
    quietRun_keeps (P := fun u => u.policy.windowsOk) (fun _ level hu => windowsOk_law.edgeKept.edge hu level) _ hwin
  rw [toNextFrame_last hs]
  exact hlast.ends (.inl rfl) (timingInRange_quietRun _ hs) hwin' (goesOn_edgesLeft hs).2

theorem isMoving_of_attached {r : MoveRef} {a : Attachment} {s : State} (h : r.Attached a s) :
    isMoving s r.index = a.move?.isSome := by
  obtain ⟨-, o, ho, rfl, -⟩ := h
  simp only [isMoving, ho]

theorem MoveRef.Lapsed.attached {r : MoveRef} {s : State} (h : r.Lapsed s) : r.Attached (.active r.source r.handle) s := by
  obtain ⟨hg, o, ho, ha, hid, ht, -⟩ := h
  exact ⟨hg, o, ho, ha, hid, ht⟩

/-- A record that is not MOVING has no move to wait for. -/
theorem toMoveEnd_of_still {i : RecIdx} {s : State} (h : isMoving s i = false) (n : Nat) : State.toMoveEnd i n s = s := by
  cases n with
  | zero => rfl
  | succ n =>
    unfold State.toMoveEnd
    rw [h]
    rfl

/-- The run up to the end of a move: `q` edges, the last a frame start; until then the move goes on or its target has
stopped being PRESENT, and after each frame start but the last it goes on. -/
structure MoveRef.EndsAfter (r : MoveRef) (s : State) (q : Nat) : Prop where
  pos : 1 ≤ q
  last : ¬FrameGoesOn (quietRun (q - 1) s)
  until_ : ∀ m, m < q → (∃ f, r.Going f (quietRun m s)) ∨ ((quietRun m s).sector r.target).state.isPresent = false
  frames : ∀ m, m + 1 < q → ¬FrameGoesOn (quietRun m s) → ∃ f, r.Going f (quietRun (m + 1) s)

/-- A frame at whose start the move is over. -/
theorem MoveRef.EndsAfter.oneFrame {r : MoveRef} {n : Nat} {s : State} (hs : TimingInRange s) (h : r.Running n s) :
    r.EndsAfter s s.ftu.edgesLeft where
  pos := edgesLeft_pos hs
  last := (goesOn_edgesLeft hs).2
  until_ _ hm := (h.inside hs hm).imp (fun hg => ⟨n, hg⟩) fun hc => hc.2.1
  frames m hm hg := absurd ((goesOn_edgesLeft hs).1 m hm) hg

/-- A frame after which the move goes on, and the run from there. -/
theorem MoveRef.EndsAfter.cons {r : MoveRef} {n f q : Nat} {s : State} (hs : TimingInRange s) (h : r.Running n s)
    (hgo : r.Going f s.toNextFrame) (hq : r.EndsAfter s.toNextFrame q) :
    r.EndsAfter s (s.ftu.edgesLeft + q) := by
  have hone := MoveRef.EndsAfter.oneFrame hs h
  have hpos := hone.pos
  have hqpos := hq.pos
  have hnext : ∀ m, quietRun (s.ftu.edgesLeft + m) s = quietRun m s.toNextFrame := fun m => by
    rw [quietRun_add, toNextFrame_eq_edgesLeft hs]
  refine ⟨by omega, ?_, fun m hm => ?_, fun m hm hg => ?_⟩
  · rw [show s.ftu.edgesLeft + q - 1 = s.ftu.edgesLeft + (q - 1) by omega, hnext]
    exact hq.last
  · rcases Nat.lt_or_ge m s.ftu.edgesLeft with hlt | hge
    · exact hone.until_ m hlt
    · obtain ⟨m', rfl⟩ := Nat.exists_eq_add_of_le hge
      rw [hnext]
      exact hq.until_ m' (by omega)
  · rcases Nat.lt_trichotomy (m + 1) s.ftu.edgesLeft with hlt | heq | hgt
    · exact hone.frames m hlt hg
    · rw [heq, ← toNextFrame_eq_edgesLeft hs]
      exact ⟨f, hgo⟩
    · obtain ⟨m', rfl⟩ := Nat.exists_eq_add_of_le (show s.ftu.edgesLeft ≤ m by omega)
      rw [hnext] at hg
      rw [Nat.add_assoc, hnext]
      exact hq.frames m' (by omega) hg

theorem toMoveEnd_of_moving {i : RecIdx} {s : State} (h : isMoving s i = true) (n : Nat) :
    State.toMoveEnd i (n + 1) s = State.toMoveEnd i n s.toNextFrame := if_pos h

/-- A move that is over at the next frame start ends there. -/
theorem MoveRef.Going.ends_next {r : MoveRef} {n : Nat} {s : State} (hs : TimingInRange s) (h : r.Going (n + 1) s)
    (hover : r.Lapsed s.toNextFrame ∨ r.Cancelled s.toNextFrame) :
    (r.Lapsed (State.toMoveEnd r.index (n + 1) s) ∨ r.Cancelled (State.toMoveEnd r.index (n + 1) s)) ∧
      ∃ q, State.toMoveEnd r.index (n + 1) s = quietRun q s ∧ r.EndsAfter s q := by
  have hstill : isMoving s.toNextFrame r.index = false := by
    rcases hover with hl | hc
    · exact isMoving_of_attached hl.attached
    · exact isMoving_of_attached hc.1
  rw [toMoveEnd_of_moving (isMoving_of_attached h), toMoveEnd_of_still hstill]
  exact ⟨hover, s.ftu.edgesLeft, toNextFrame_eq_edgesLeft hs, .oneFrame hs (.inl h)⟩

/-- A move that is left alone ends (R147, R149), by induction on its frames. -/
theorem MoveRef.Going.ends {r : MoveRef} {n : Nat} {s : State} (hs : TimingInRange s) (hwin : s.policy.windowsOk)
    (h : r.Going (n + 1) s) :
    (r.Lapsed (State.toMoveEnd r.index (n + 1) s) ∨ r.Cancelled (State.toMoveEnd r.index (n + 1) s)) ∧
      ∃ q, State.toMoveEnd r.index (n + 1) s = quietRun q s ∧ r.EndsAfter s q := by
  induction n generalizing s with
  | zero =>
    rcases MoveRef.Running.atNextFrame hs hwin (.inl h) with ⟨hn, -⟩ | ⟨-, hl⟩ | hc
    · exact absurd hn (by decide)
    · exact h.ends_next hs (.inl hl)
    · exact h.ends_next hs (.inr hc)
  | succ n ih =>
    rcases MoveRef.Running.atNextFrame hs hwin (.inl h) with ⟨-, hgo⟩ | ⟨-, hl⟩ | hc
    · have hrun := toNextFrame_eq_edgesLeft hs
      obtain ⟨hover, q, heq, hq⟩ := ih (s := s.toNextFrame) (hrun ▸ timingInRange_quietRun _ hs)
        (hrun ▸ quietRun_keeps (P := fun u => u.policy.windowsOk)
          (fun _ level hu => windowsOk_law.edgeKept.edge hu level) _ hwin) hgo
      rw [toMoveEnd_of_moving (isMoving_of_attached h)]
      refine ⟨hover, s.ftu.edgesLeft + q, ?_, .cons hs (.inl h) hgo hq⟩
      rw [heq, hrun, quietRun_add]
    · exact h.ends_next hs (.inl hl)
    · exact h.ends_next hs (.inr hc)

theorem policyInRange_windowsOk {s : State} (h : PolicyInRange s) : s.policy.windowsOk := by
  obtain ⟨-, -, hwindow, hpending, -⟩ := h
  exact ⟨hwindow, hpending⟩

theorem framesLeft_of_going {r : MoveRef} {n : Nat} {s : State} (h : r.Going n s) : framesLeft s r.index = n := by
  obtain ⟨-, o, ho, ha, -⟩ := h
  simp [framesLeft, ho, ha, Attachment.move?]

/-- Settles O13. -/
theorem moveExpiryReturnsTheRecord : Obligations.MoveExpiryReturnsTheRecord := by
  intro s i o k target h n hs hp ho ha hn
  obtain ⟨n, rfl⟩ := Nat.exists_eq_add_of_le' hn
  let r : MoveRef := { index := i, generation := (s.record i).generation, id := o.id, terms := o.terms, source := k
                       handle := h, target := target }
  have hgo : r.Going (n + 1) s := ⟨rfl, o, ho, ha, rfl, rfl⟩
  obtain ⟨hover, q, hrun, hq⟩ := hgo.ends hs (policyInRange_windowsOk hp)
  have hexec : exec (.moveExpiry i) s = .next (State.toMoveEnd i (n + 1) s) :=
    congrArg (fun m => Host.Outcome.next (State.toMoveEnd i m s)) (framesLeft_of_going hgo)
  have hlasts : ∀ m, (∃ f, r.Going f (quietRun m s)) →
      ∃ v f, (quietRun m s).occupant i = some v ∧ v.attachment = .moving k h target f := fun m hm => by
    obtain ⟨f, -, v, hv, hva, -⟩ := hm
    exact ⟨v, f, hv, hva⟩
  have hrest : ∀ going : Nat → Prop, (∀ m, (∃ f, r.Going f (quietRun m s)) → going m) →
      ∃ q, 1 ≤ q ∧ State.toMoveEnd i (n + 1) s = quietRun q s ∧ ¬FrameGoesOn (quietRun (q - 1) s) ∧
        (∀ m, m < q → going m ∨ ((quietRun m s).sector target).state.isPresent = false) ∧
        ∀ m, m + 1 < q → ¬FrameGoesOn (quietRun m s) → going (m + 1) := fun going hgoing =>
    ⟨q, hq.pos, hrun, hq.last, fun m hm => (hq.until_ m hm).imp (hgoing m) id, fun m hm hg => hgoing _ (hq.frames m hm hg)⟩
  rcases hover with ⟨hg, u, hu, hua, hid, hterms, hlapse⟩ | ⟨⟨hg, u, hu, hua, hid, hterms⟩, hsilent, -⟩
  · exact ⟨_, u, hexec, hu, hua, hid, hterms, hg, .inl hlapse, hrest _ hlasts⟩
  · exact ⟨_, u, hexec, hu, hua, hid, hterms, hg, .inr hsilent, hrest _ hlasts⟩

end Sys2Proof.Machine
end

section
/-! Proof of the statement of the hold timeout (R155): what a slot boundary does to a port, and the run up to the timeout. -/

namespace Sys2Proof.Machine

open Sys2Proof.Safety

/-! ### The ports between slot boundaries and at one -/

section Ports

variable {s : State} (l : Link)

theorem notified_edge_of_noBoundary (hg : FrameGoesOn s) (hb : NoBoundary s) :
    Notified (s.port l) ((s.edge false).port l) := by
  rw [edge_of_noBoundary (.inl rfl) hg hb]
  exact notified_ageBuild s l

/-- Quiet edges count no slot. -/
theorem notified_quietFor {n : Nat} (h : QuietFor s n) : Notified (s.port l) ((quietRun n s).port l) := by
  induction n generalizing s with
  | zero => exact .refl _
  | succ n ih => exact (notified_edge_of_noBoundary l h.first.1 h.first.2).trans (ih h.rest)

theorem notified_countSlot {p q : Port} (h : Notified p q) : Notified p.countSlot q.countSlot := by
  rw [h.1]
  unfold Port.countSlot
  dsimp only
  split <;> exact ⟨rfl, h.2⟩

/-- At the boundary of a slot inside the frame every port counts it. -/
theorem notified_edge_of_boundary {k : Nat} (hg : FrameGoesOn s) (h16 : 16 ≤ s.ftu.inForce.p) (hk : 1 ≤ k ∧ k ≤ 15)
    (hc : slotCount s.ftu.inForce.p k = s.ftu.count + 1) :
    Notified (s.port l).countSlot ((s.edge false).port l) := by
  have hdue : slotsDue s.ftu.inForce.p s.ftu.count (some (s.ftu.count + 1)) = [k] := slotsDue_next h16 hk hc
  rw [edge_of_goesOn (.inl rfl) hg, State.advance]
  dsimp only [quietMeasured]
  rw [hdue]
  exact (notified_countSlot (notified_ageBuild s l)).trans (notified_slotEvent { s.ageBuild with ftu := _ } l k)

theorem slotsAhead_at_end (hs : TimingInRange s) (hc : s.ftu.inForce.p ≤ s.ftu.count + 1) : slotsAhead s.ftu = [] := by
  rw [List.eq_nil_iff_forall_not_mem]
  intro k hk
  obtain ⟨⟨-, h15⟩, hlt⟩ := mem_slotsAhead.1 hk
  have := slotCount_lt (Nat.lt_of_lt_of_le (by decide) (inForce_ge hs)) h15
  omega

/-- At a frame start every port counts slot 0, and no other slot. -/
theorem notified_edge_of_frameStart (hs : TimingInRange s) (hg : ¬FrameGoesOn s) :
    Notified (s.port l).countSlot ((s.edge false).port l) := by
  have haged := notified_countSlot (notified_ageBuild s l)
  by_cases hst : s.ftu.state = .locked
  · have hf := fresh_of_locked hs hst
    rw [frameGoesOn_iff hf, Ftu.frameEnd, if_pos hst] at hg
    have hnone : ({ s.ageBuild with ftu := quietMeasured s.ftu false } : State).outstanding =
        { s.ageBuild with ftu := quietMeasured s.ftu false } := by
      rw [outstanding_eq]
      show List.foldl _ _ (slotsAhead s.ftu) = _
      rw [slotsAhead_at_end hs (by omega)]
      rfl
    rw [edge_of_expiry (.inl rfl) hst (by omega), hnone]
    refine (haged.trans (notified_countSlot ?_)).trans (notified_startFrame _ l)
    rw [expire_port]
    exact ⟨rfl, fun _ => rfl⟩
  · have hc : s.ftu.fresh = true ∨ s.ftu.inForce.p ≤ s.ftu.count + 1 := by
      by_cases hf : s.ftu.fresh = true
      · exact .inl hf
      · rw [frameGoesOn_iff (by simpa using hf), Ftu.frameEnd, if_neg hst] at hg
        exact .inr (by omega)
    rw [edge_of_ownStart (.inl rfl) hst hc]
    exact haged.trans (notified_startFrame { s.ageBuild with ftu := _ } l)

end Ports

/-- Before the next slot boundary no port counts a slot. -/
theorem notified_before_boundary {s : State} (l : Link) {m : Nat} (hm : m < s.ftu.quietEdges) :
    Notified (s.port l) ((quietRun m s).port l) := by
  by_cases hf : s.ftu.fresh = true
  · rw [show s.ftu.quietEdges = 1 from if_pos hf] at hm
    rw [show m = 0 by omega]
    exact .refl _
  · have hf : s.ftu.fresh = false := by simpa using hf
    rw [Ftu.quietEdges, hf, if_neg Bool.false_ne_true] at hm
    by_cases h0 : m = 0
    · rw [h0]
      exact .refl _
    · exact notified_quietFor l (quietFor_nextCount hf (by omega))

/-- At the next slot boundary every port counts one slot. -/
theorem notified_toNextSlot {s : State} (l : Link) (hs : TimingInRange s) :
    Notified (s.port l).countSlot (s.toNextSlot.port l) := by
  have hpos := quietEdges_pos s.ftu
  have hlast : s.toNextSlot = (quietRun (s.ftu.quietEdges - 1) s).edge false := by
    rw [toNextSlot_eq_quietRun, ← quietRun_last, Nat.sub_add_cancel hpos]
  have hbefore := notified_countSlot (notified_before_boundary l (m := s.ftu.quietEdges - 1) (s := s) (by omega))
  rw [hlast]
  refine hbefore.trans ?_
  by_cases hstart : slotsAhead s.ftu = [] ∨ s.ftu.fresh = true
  · have hedges : s.ftu.quietEdges = s.ftu.edgesLeft := by
      unfold Ftu.edgesLeft
      by_cases hf : s.ftu.fresh = true
      · rw [if_pos hf]
        exact if_pos hf
      · rw [if_neg hf]
        exact quietEdges_of_nil hs (by simpa using hf) (hstart.resolve_right hf)
    rw [hedges]
    exact notified_edge_of_frameStart l (timingInRange_quietRun _ hs) (goesOn_edgesLeft hs).2
  · obtain ⟨hslots, hf⟩ := not_or.1 hstart
    have hf : s.ftu.fresh = false := by simpa using hf
    obtain ⟨k, rest, hk⟩ := List.exists_cons_of_ne_nil hslots
    obtain ⟨hedges, hlt, hend, -⟩ := toNextSlot_inside hs hf hk
    have hk15 := (mem_slotsAhead.1 (hk ▸ List.mem_cons_self : k ∈ slotsAhead s.ftu)).1
    have hin : s.ftu.count + (s.ftu.quietEdges - 1) < s.ftu.frameEnd := by omega
    obtain ⟨hftu, -⟩ := quietRun_inside hs hf hin
    refine notified_edge_of_boundary l ((goesOn_inside hs hf hin).2 (by omega)) ?_ hk15 ?_
    · rw [hftu]
      exact inForce_ge hs
    · rw [hftu]
      show slotCount s.ftu.inForce.p k = s.ftu.count + (s.ftu.quietEdges - 1) + 1
      omega

/-! ### The run up to the timeout (R155) -/

/-- What a port keeps through a select period: the select line, the hold limit, what was clocked in, and its counters. -/
structure SamePeriod (p q : Port) : Prop where
  selected : q.selected = p.selected
  hold : q.hold = p.hold
  bitsIn : q.bitsIn = p.bitsIn
  errors : q.errors = p.errors

theorem Notified.period {p q : Port} (h : Notified p q) : SamePeriod p q ∧ q.slots = p.slots ∧ q.timedOut = p.timedOut := by
  rw [h.1]
  exact ⟨⟨rfl, rfl, rfl, rfl⟩, rfl, rfl⟩

theorem countSlot_period (p : Port) : SamePeriod p p.countSlot := by
  unfold Port.countSlot
  split <;> exact ⟨rfl, rfl, rfl, rfl⟩

theorem countSlot_running {p : Port} (hsel : p.selected = true) (ht : p.timedOut = false) :
    p.countSlot.slots = p.slots + 1 ∧ p.countSlot.timedOut = decide (p.hold + 1 ≤ p.slots + 1) := by
  have h : p.countSlot = { p with slots := p.slots + 1, timedOut := decide (p.hold + 1 ≤ p.slots + 1) } :=
    if_pos (by rw [hsel, ht]; rfl)
  rw [h]
  exact ⟨rfl, rfl⟩

theorem SamePeriod.trans {p q r : Port} (h : SamePeriod p q) (h' : SamePeriod q r) : SamePeriod p r :=
  ⟨h'.selected.trans h.selected, h'.hold.trans h.hold, h'.bitsIn.trans h.bitsIn, h'.errors.trans h.errors⟩

/-- What the next slot boundary does to a period in progress. -/
theorem period_toNextSlot {s : State} {l : Link} (hs : TimingInRange s) (hsel : (s.port l).selected = true)
    (ht : (s.port l).timedOut = false) :
    SamePeriod (s.port l) (s.toNextSlot.port l) ∧ (s.toNextSlot.port l).slots = (s.port l).slots + 1 ∧
      (s.toNextSlot.port l).timedOut = decide ((s.port l).hold + 1 ≤ (s.port l).slots + 1) := by
  obtain ⟨hperiod, hslots, htimed⟩ := (notified_toNextSlot l hs).period
  obtain ⟨hcslots, hctimed⟩ := countSlot_running hsel ht
  exact ⟨(countSlot_period _).trans hperiod, hslots.trans hcslots, htimed.trans hctimed⟩

/-- The period of a port times out after the slots that its hold limit leaves, and no sooner. -/
theorem timesOut {l : Link} (n : Nat) {s : State} (hs : TimingInRange s) (hsel : (s.port l).selected = true)
    (ht : (s.port l).timedOut = false) (hn : (s.port l).slots + n = (s.port l).hold) :
    ∃ q, State.toNextSlot^[n + 1] s = quietRun q s ∧ ((quietRun q s).port l).timedOut = true ∧
      ((quietRun q s).port l).slots = (s.port l).hold + 1 ∧ SamePeriod (s.port l) ((quietRun q s).port l) ∧
      ∀ m, m < q → ((quietRun m s).port l).timedOut = false := by
  have hrun := toNextSlot_eq_quietRun s
  have hbefore : ∀ m, m < s.ftu.quietEdges → ((quietRun m s).port l).timedOut = false := fun m hm => by
    rw [(notified_before_boundary l hm).period.2.2, ht]
  obtain ⟨hsame, hslots, htimed⟩ := period_toNextSlot hs hsel ht
  induction n generalizing s with
  | zero =>
    rw [decide_eq_true (by omega)] at htimed
    rw [hrun] at hslots htimed hsame
    exact ⟨s.ftu.quietEdges, hrun, htimed, by omega, hsame, hbefore⟩
  | succ n ih =>
    rw [decide_eq_false (by omega)] at htimed
    have hs' : TimingInRange s.toNextSlot := hrun ▸ timingInRange_quietRun _ hs
    have hsel' : (s.toNextSlot.port l).selected = true := hsame.selected.trans hsel
    have hnext := period_toNextSlot hs' hsel' htimed
    obtain ⟨q, heq, hq, hqslots, hqsame, hqbefore⟩ := ih hs' hsel' htimed (by rw [hslots, hsame.hold]; omega)
      (toNextSlot_eq_quietRun _)
      (fun m hm => by rw [(notified_before_boundary l hm).period.2.2, htimed]) hnext.1 hnext.2.1 hnext.2.2
    have hadd : ∀ m, quietRun (s.ftu.quietEdges + m) s = quietRun m s.toNextSlot := fun m => by rw [quietRun_add, hrun]
    refine ⟨s.ftu.quietEdges + q, ?_, ?_, ?_, ?_, fun m hm => ?_⟩
    · rw [Function.iterate_succ_apply, heq, hadd]
    · rw [hadd, hq]
    · rw [hadd, hqslots, hsame.hold]
    · rw [hadd]
      exact hsame.trans hqsame
    · rcases Nat.lt_or_ge m s.ftu.quietEdges with hlt | hge
      · exact hbefore m hlt
      · obtain ⟨m', rfl⟩ := Nat.exists_eq_add_of_le hge
        rw [hadd]
        exact hqbefore m' (by omega)

/-- Settles O28. -/
theorem holdTimeoutEndsThePeriod : Obligations.HoldTimeoutEndsThePeriod := by
  refine ⟨fun s l bits hs hsel ht hle => ?_, fun p bits h => if_pos h⟩
  have hclock : (s.clockLink l bits).port l = { s.port l with
      bitsIn := (s.port l).bitsIn ++ bits, bitsOut := ((s.port l).shift bits).bitsOut
      buffer := ((s.port l).shift bits).buffer } := by
    rw [State.clockLink, if_pos hsel, port_setPort_same]
    simp only [Port.shift, ht]
    rfl
  generalize hu : s.clockLink l bits = u at hclock
  have htiming : TimingInRange u := timingInRange_congr (by rw [← hu, clockLink_ftu]) hs
  obtain ⟨n, hn⟩ := Nat.exists_eq_add_of_le hle
  obtain ⟨q, heq, hq, hqslots, hqsame, hqbefore⟩ := timesOut (l := l) n htiming (by rw [hclock]; exact hsel)
    (by rw [hclock]; exact ht) (by rw [hclock]; exact hn.symm)
  have hexec : exec (.holdTimeout l bits) s = .next (quietRun q u) := by
    show execHoldTimeout l bits s = _
    have hleft : (u.port l).hold + 1 - (u.port l).slots = n + 1 := by
      rw [hclock]
      show (s.port l).hold + 1 - (s.port l).slots = n + 1
      omega
    have hopen : ((u.port l).selected && !(u.port l).timedOut) = true := by
      rw [hclock]
      show ((s.port l).selected && !(s.port l).timedOut) = true
      rw [hsel, ht]
      rfl
    unfold execHoldTimeout
    dsimp only
    rw [hu, if_pos hopen, hleft, heq]
  have hhold : ((quietRun q u).port l).hold = (s.port l).hold := by rw [hqsame.hold, hclock]
  refine ⟨_, hexec, hq, ?_, hhold, ?_, ?_, ?_, q, rfl, hqbefore⟩
  · rw [hqslots, hqsame.hold]
  · rw [hqsame.selected, hclock]
    exact hsel
  · rw [hqsame.bitsIn, hclock]
  · rw [hqsame.errors, hclock]

end Sys2Proof.Machine
end

section
/-! Proofs of the statements of the record entries of a build start (R40, R88, R89) and of build completion (R102 to R106). -/

namespace Sys2Proof.Machine

open Sys2Proof.Safety

/-! ### The record entries and the ages at a build start (R40, R88, R89) -/

section BuildStart

variable (s : State)

/-- Presence evaluation leaves a record its place and every other field but the attachment. -/
theorem occupant_presence_some {i : RecIdx} {o : Occupant} (ho : s.occupant i = some o) :
    ∃ a : Attachment, a.place? = o.attachment.place? ∧ s.presence.occupant i = some { o with attachment := a } := by
  rw [occupant_presence, ho]
  exact ⟨_, place_settleIf (fun j => (s.sector j).fallsSilent s.policy.m) o, rfl⟩

theorem occupant_presence_none {i : RecIdx} (ho : s.occupant i = none) : s.presence.occupant i = none := by
  rw [occupant_presence, ho]
  rfl

/-- A FREE record has no entry. -/
theorem snapRecord_of_free (k : SectorId) {i : RecIdx} (ho : s.occupant i = none) :
    snapRecord s k i = { index := i, generation := (s.record i).generation, entry := none } := by
  simp only [snapRecord, ho]

/-- A record in use has an entry unless it is suspended (R88). -/
theorem snapRecord_of_used (k : SectorId) {i : RecIdx} {o : Occupant} (ho : s.occupant i = some o) :
    snapRecord s k i =
      { index := i, generation := (s.record i).generation
        entry := if o.suspended = true then none else some (entryOf s.policy k i (s.record i).generation o) } := by
  simp only [snapRecord, ho]

/-- The handle of an entry is that of its record's place. -/
theorem handle_entryOf (p : Policy) (k : SectorId) (i : RecIdx) (generation : Nat) {o : Occupant} {j : SectorId} {h : Nat}
    (hp : o.attachment.place? = some (j, h)) : (entryOf p k i generation o).handle = h := by
  simp only [entryOf, hp]

/-- What a build start takes of a record of a ring (R40, R88, R89). -/
theorem snapRecord_presence (k : SectorId) (i : RecIdx) :
    let r := snapRecord s.presence k i
    r.generation = (s.record i).generation ∧ (r.entry = none ↔ ∀ o ∈ s.occupant i, o.suspended = true) ∧
      ∀ e ∈ r.entry, ∀ o ∈ s.occupant i,
        e.index = i ∧ e.generation = r.generation ∧ e.home = k ∧
        (∀ k h, o.attachment.place? = some (k, h) → e.handle = h) ∧ e.terms = o.terms ∧ e.cls = o.cls ∧ e.ta = o.ta ∧
        (e.outer = true ↔ s.policy.z ≤ o.ta) ∧ e.creditDL = o.creditDL ∧ e.creditUL = o.creditUL ∧
        e.demandDL = (if s.policy.alim ≤ o.age then 0 else o.demandDL) ∧
        e.demandUL = (if s.policy.alim ≤ o.age then 0 else o.demandUL) := by
  have hgen := (evaluated_presence s).generation i
  have hpolicy := presence_policy s
  rcases Option.eq_none_or_eq_some (s.occupant i) with ho | ⟨o, ho⟩
  · rw [snapRecord_of_free _ _ (occupant_presence_none s ho), ho]
    exact ⟨hgen, by simp, fun e he => by cases he⟩
  · obtain ⟨a, ha, hat⟩ := occupant_presence_some s ho
    rw [snapRecord_of_used _ _ hat, ho]
    by_cases hsus : o.suspended = true
    · rw [if_pos hsus]
      exact ⟨hgen, by simp [hsus], fun e he => by cases he⟩
    · rw [if_neg hsus]
      refine ⟨hgen, by simp [hsus], fun e he p hp => ?_⟩
      obtain rfl := Option.mem_some.1 he
      obtain rfl := Option.mem_some.1 hp
      rw [hpolicy]
      exact ⟨rfl, rfl, rfl, fun j h hj => handle_entryOf _ _ _ _ (ha.trans hj), rfl, rfl, rfl, decide_eq_true_iff, rfl, rfl,
        rfl, rfl⟩

/-- The records of the rings of PRESENT sectors get one build older (R40). -/
theorem occupant_raiseAges {i : RecIdx} {o : Occupant} (ho : s.occupant i = some o) :
    ((∃ k, (s.sector k).state.isPresent = true ∧ i ∈ (s.sector k).ring) →
      s.raiseAges.occupant i = some { o with age := min (o.age + 1) 255 }) ∧
    ((¬∃ k, (s.sector k).state.isPresent = true ∧ i ∈ (s.sector k).ring) → s.raiseAges.occupant i = some o) := by
  have hany : (allSectors.any fun k => (s.sector k).state.isPresent && decide (i ∈ (s.sector k).ring)) = true ↔
      ∃ k, (s.sector k).state.isPresent = true ∧ i ∈ (s.sector k).ring := by
    simp only [List.any_eq_true, mem_allSectors, true_and, Bool.and_eq_true, decide_eq_true_eq]
  rw [State.raiseAges, occupant_mapOccupants, ho, Option.map_some]
  exact ⟨fun h => by rw [if_pos (hany.2 h)]; rfl, fun h => by rw [if_neg (mt hany.1 h)]⟩

end BuildStart

/-- A build start writes the records with their ages raised. -/
theorem startBuild_table (s : State) : s.startBuild.table = s.presence.raiseAges.table := rfl

/-- Settles O17: the snapshot's places are `snapRecord` of the state after presence evaluation, and the ages rise after
it. -/
theorem recordEntriesAndAges : Obligations.RecordEntriesAndAges := by
  intro s
  refine ⟨_, startBuild_builder s, fun v hv r hr => ?_, fun i o ho => ?_⟩
  · obtain ⟨k, -, rfl⟩ := List.mem_map.1 hv
    obtain ⟨i, -, rfl⟩ := List.mem_map.1 hr
    exact snapRecord_presence s k i
  · have hages := occupant_raiseAges s.presence ho
    simp only [(ring_heads_presence s _).1] at hages
    rwa [← occupant_congr (t := s.startBuild) (startBuild_table s) i] at hages

/-! ### Completion (R102 to R106) -/

section Completion

variable {s : State} {b : Build} (h : s.builder = some b)
include h

/-- What a completing build does, its plan and its working state written out. -/
theorem complete_of_some : s.complete =
    (((({ s with
      next := some { frame := b.snapshot.frame, plan := (planOf b.snapshot (runBuild b.snapshot b.work)).voidWhere (grantFails s) }
      builder := none } : State).commitCredits b.snapshot (runBuild b.snapshot b.work)).commitHeads
        (runBuild b.snapshot b.work)).raisePlanReady b.snapshot.frame) := by
  unfold State.complete
  rw [h]

end Completion

/-- The credits of a record without an entry stay (R104). -/
theorem occupant_commitCredits_of_none (s : State) (snap : Snapshot) (w : Work) {i : RecIdx}
    (he : ∀ e ∈ snap.entries, e.index ≠ i) : (s.commitCredits snap w).occupant i = s.occupant i := by
  have hf : snap.entries.find? (fun e => decide (e.index = i)) = none :=
    List.find?_eq_none.2 fun e h => by simpa using he e h
  rw [State.commitCredits, occupant_mapOccupants]
  simp only [hf, Option.map_id']

/-- The credits of a record that still matches its entry are committed, and those of another stay (R104). -/
theorem occupant_commitCredits_of_some (s : State) (snap : Snapshot) (w : Work) {i : RecIdx} {o : Occupant} {e : Entry}
    (ho : s.occupant i = some o) (he : snap.entries.find? (fun e => decide (e.index = i)) = some e) :
    (Matches s e.home i e.generation e.handle → (s.commitCredits snap w).occupant i = some { o with
      creditDL := min (w.dl.record i).credit (4 * o.terms.weight)
      creditUL := min (w.ul.record i).credit (4 * o.terms.weight) }) ∧
    (¬Matches s e.home i e.generation e.handle → (s.commitCredits snap w).occupant i = some o) := by
  rw [State.commitCredits, occupant_mapOccupants, ho, Option.map_some]
  simp only [he]
  exact ⟨fun hm => by rw [if_pos ((stillHeld_iff ..).2 hm)]; rfl,
    fun hm => by rw [if_neg (mt (stillHeld_iff ..).1 hm)]⟩

theorem generation_commitCredits (s : State) (snap : Snapshot) (w : Work) (i : RecIdx) :
    ((s.commitCredits snap w).record i).generation = (s.record i).generation := by
  rw [State.commitCredits, record_mapOccupants]

theorem committedHead_congr {s t : State} (hg : ∀ i, (t.record i).generation = (s.record i).generation)
    (ring : List RecIdx) (live : Option RecIdx) (w : Option WorkHead) :
    committedHead t ring live w = committedHead s ring live w := by
  cases w <;> simp only [committedHead, hg]

/-- A completion reaches the records, the sectors, the ports, NEXT and the builder. -/
theorem complete_frame (s : State) :
    s.complete = { s with
      table := s.complete.table, sectors := s.complete.sectors, ports := s.complete.ports, next := s.complete.next
      builder := none } := by
  have hftu := complete_ftu s; have hpolicy := complete_policy s; have hbuilder := complete_builder s
  have hwindow := complete_windowOpen s; have hqueues := complete_queues s
  have hlive := complete_live s; have hpower := complete_powerLow s; have hpending := complete_pending s
  generalize s.complete = t at *
  cases t; cases s; simp_all

theorem commits_states (t : State) (snap : Snapshot) (w : Work) (k : SectorId) :
    (((t.commitCredits snap w).commitHeads w).sector k).state = (t.sector k).state := by
  rw [(sameStates_commitHeads _ w).2, sector_congr (commitCredits_sectors t snap w)]

/-- A build past its limit completes at the start of the next edge, as if it had completed before (R102). -/
theorem ageBuild_complete {s : State} {b : Build} (h : s.builder = some b) (hage : 4096 ≤ b.age) :
    s.ageBuild = s.complete.ageBuild := by
  rw [ageBuild_eq_ageBy, ageBuild_eq_ageBy, ageBy_of_late h (by unfold buildLimit; omega),
    ageBy_of_none (complete_builder s)]

theorem edge_congr_ageBuild {s t : State} (h : s.ageBuild = t.ageBuild) (level : Bool) : s.edge level = t.edge level := by
  unfold State.edge
  rw [h]

/-- The sectors after the commits: the heads alone are written (R105). -/
theorem sector_commits (t : State) (snap : Snapshot) (w : Work) (k : SectorId) :
    ((t.commitCredits snap w).commitHeads w).sector k = { t.sector k with
      dlHead := committedHead t (t.sector k).ring (t.sector k).dlHead (w.dl.heads.get k)
      ulHead := committedHead t (t.sector k).ring (t.sector k).ulHead (w.ul.heads.get k) } := by
  rw [sector_commitHeads, sector_congr (commitCredits_sectors t snap w)]
  simp only [committedHead_congr (generation_commitCredits t snap w)]

/-- Settles O24: the completing build is a chain of three updates, each of which reaches its own part of the state. -/
theorem buildCompletionCommits : Obligations.BuildCompletionCommits := by
  intro s b h snap w
  let t : State := { s with
    next := some { frame := snap.frame, plan := (planOf snap w).voidWhere (grantFails s) }
    builder := none }
  have hu : s.complete = ((t.commitCredits snap w).commitHeads w).raisePlanReady snap.frame := complete_of_some h
  have hnext : s.complete.next = t.next := by
    rw [hu, raisePlanReady_next, commitHeads_next, commitCredits_next]
  have htable : s.complete.table = (t.commitCredits snap w).table := by
    rw [hu, raisePlanReady_table, commitHeads_table]
  have hsectors : s.complete.sectors = ((t.commitCredits snap w).commitHeads w).sectors := by
    rw [hu, raisePlanReady_sectors]
  have hstates : ∀ k, (((t.commitCredits snap w).commitHeads w).sector k).state = (s.sector k).state :=
    commits_states t snap w
  have hports : ∀ l, ((t.commitCredits snap w).commitHeads w).port l = s.port l := fun l =>
    port_congr (by rw [commitHeads_ports, commitCredits_ports]) l
  refine ⟨s.complete, rfl, complete_builder s, ⟨grantFails s, hnext, grantFails_iff s⟩, fun i => ?_, fun i ho => ?_,
    fun i o ho => ?_, fun k => ?_, fun l k hk => ?_, fun l hl => ?_, complete_frame s, fun hage => ?_⟩
  · rw [record_congr htable]
    exact generation_commitCredits t snap w i
  · rw [occupant_congr htable, State.commitCredits, occupant_mapOccupants, show t.occupant i = none from ho]
    rfl
  · rw [occupant_congr htable]
    exact ⟨fun e he => occupant_commitCredits_of_some t snap w ho he,
      fun he => (occupant_commitCredits_of_none t snap w he).trans ho⟩
  · refine ⟨_, _, (sector_congr hsectors k).trans (sector_commits t snap w k),
      fun hd heq => ?_, fun hd heq => ?_, fun heq => ?_, fun heq => ?_⟩ <;> rw [heq] <;> rfl
  · rw [hu, raisePlanReady_port_present snap.frame ((hstates k).trans hk), hports]
  · rw [hu, raisePlanReady_port_other snap.frame fun k hk => hl k ((hstates k).symm.trans hk), hports]
  · have hedge := edge_congr_ageBuild (ageBuild_complete h hage)
    exact ⟨congrArg Host.Outcome.next (hedge true), fun level => congrArg Host.Outcome.next (hedge level)⟩

end Sys2Proof.Machine
end

section
/-! The steps of a build: every pass is a sequence of placements that qualify and of changes that touch neither needs nor
grants. What these steps keep, the whole build keeps; the placement laws and the budget law are of this kind. -/

namespace Sys2Proof.Machine

open Sys2Proof.Safety

/-! ### The working fields of a record -/

section Records

variable (v : DirWork) {i j : RecIdx} {f : WorkRecord → WorkRecord}

theorem find_updated (rs : List WorkRecord) (hf : ∀ r, (f r).index = r.index) (p : RecIdx) :
    (rs.map fun r => if r.index = i then f r else r).find? (fun r => decide (r.index = p)) =
      (rs.find? fun r => decide (r.index = p)).map fun r => if r.index = i then f r else r := by
  rw [List.find?_map]
  refine congrArg (Option.map _) (congrArg (fun q => List.find? q rs) (funext fun r => ?_))
  simp only [Function.comp]
  split <;> simp only [hf]

/-- The update of a record is seen by it alone. -/
theorem record_update_other (hf : ∀ r, (f r).index = r.index) (h : j ≠ i) : (v.update i f).record j = v.record j := by
  simp only [DirWork.record, DirWork.update, find_updated _ hf]
  rcases Option.eq_none_or_eq_some (v.records.find? fun r => decide (r.index = j)) with hr | ⟨r, hr⟩
  · rw [hr]; rfl
  · have hrj : r.index = j := by simpa using List.find?_some hr
    rw [hr, Option.map_some, if_neg (hrj ▸ h)]

/-- The update of a record of the direction puts its fields through the function. -/
theorem record_update_same (hf : ∀ r, (f r).index = r.index) (h : i ∈ v.records.map WorkRecord.index) :
    (v.update i f).record i = f (v.record i) := by
  simp only [DirWork.record, DirWork.update, find_updated _ hf]
  rcases Option.eq_none_or_eq_some (v.records.find? fun r => decide (r.index = i)) with hr | ⟨r, hr⟩
  · obtain ⟨r, hmem, hri⟩ := List.mem_map.1 h
    exact absurd (List.find?_eq_none.1 hr r hmem) (by simpa using hri)
  · have hri : r.index = i := by simpa using List.find?_some hr
    rw [hr, Option.map_some, if_pos hri]
    rfl

/-- A record that the direction does not hold is not updated. -/
theorem record_update_of_notMem (hf : ∀ r, (f r).index = r.index) (h : i ∉ v.records.map WorkRecord.index) :
    (v.update i f).record i = v.record i := by
  simp only [DirWork.record, DirWork.update, find_updated _ hf]
  have hr : v.records.find? (fun r => decide (r.index = i)) = none :=
    List.find?_eq_none.2 fun r hmem => by simpa using fun e => h (List.mem_map.2 ⟨r, hmem, e⟩)
  rw [hr]
  rfl

/-- A record with need is one that the direction holds. -/
theorem mem_records_of_need (h : 0 < (v.record i).need) : ∃ r ∈ v.records, r.index = i ∧ v.record i = r := by
  rcases Option.eq_none_or_eq_some (v.records.find? fun r => decide (r.index = i)) with hr | ⟨r, hr⟩
  · simp [DirWork.record, hr] at h
  · exact ⟨r, List.mem_of_find?_eq_some hr, by simpa using List.find?_some hr, by simp [DirWork.record, hr]⟩

/-- One tile less is needed after a placement. -/
theorem need_placed : ((v.update i fun r => { r with need := r.need - 1 }).record i).need = (v.record i).need - 1 := by
  by_cases h : i ∈ v.records.map WorkRecord.index
  · exact congrArg WorkRecord.need (record_update_same v (f := fun r => { r with need := r.need - 1 }) (fun _ => rfl) h)
  · rw [record_update_of_notMem v (f := fun r => { r with need := r.need - 1 }) (fun _ => rfl) h]
    have : ¬0 < (v.record i).need := fun hn => by
      obtain ⟨r, hr, hri, -⟩ := mem_records_of_need v hn
      exact h (List.mem_map.2 ⟨r, hr, hri⟩)
    omega

end Records

/-! ### Updates of the records of several entries -/

/-- The records of some entries put through a function each, one after another. -/
def DirWork.updateAll (f : Entry → WorkRecord → WorkRecord) (es : List Entry) (v : DirWork) : DirWork :=
  es.foldl (fun v e => v.update e.index (f e)) v

section UpdateAll

variable {f : Entry → WorkRecord → WorkRecord} (hf : ∀ e r, (f e r).index = r.index)

theorem setNeeds_eq (snap : Snapshot) (dir : Dir) (w : Work) : setNeeds snap dir w =
    w.put dir ((w.at dir).updateAll (fun e r => { r with need := needOf e dir }) snap.entries) := rfl

theorem creditUpdate_eq (snap : Snapshot) (dir : Dir) (w : Work) : creditUpdate snap dir w =
    w.put dir ((w.at dir).updateAll WorkRecord.updateCredit snap.entries) := rfl

theorem updateAll_fields (es : List Entry) (v : DirWork) :
    v.updateAll f es = { v with records := (v.updateAll f es).records } := by
  unfold DirWork.updateAll
  induction es generalizing v with
  | nil => rfl
  | cons e es ih => exact ih (v.update e.index (f e))

include hf

theorem updateAll_indices (es : List Entry) (v : DirWork) :
    (v.updateAll f es).records.map WorkRecord.index = v.records.map WorkRecord.index := by
  unfold DirWork.updateAll
  induction es generalizing v with
  | nil => rfl
  | cons e es ih => exact (ih (v.update e.index (f e))).trans (update_indices v e.index (hf e))

/-- The record of no entry keeps its fields. -/
theorem record_updateAll_of_notMem {i : RecIdx} (es : List Entry) (v : DirWork) (h : i ∉ es.map Entry.index) :
    (v.updateAll f es).record i = v.record i := by
  unfold DirWork.updateAll
  induction es generalizing v with
  | nil => rfl
  | cons e es ih =>
    obtain ⟨hne, hmem⟩ := not_or.1 (mt List.mem_cons.2 h)
    exact (ih (v.update e.index (f e)) hmem).trans (record_update_other v (hf e) hne)

/-- Each entry's record is put through its own function, when no two entries are of one record. -/
theorem record_updateAll {e : Entry} (es : List Entry) (v : DirWork) (hes : (es.map Entry.index).Nodup) (he : e ∈ es)
    (hi : e.index ∈ v.records.map WorkRecord.index) : (v.updateAll f es).record e.index = f e (v.record e.index) := by
  induction es generalizing v with
  | nil => cases he
  | cons a es ih =>
    obtain ⟨ha, hes⟩ := List.nodup_cons.1 hes
    rcases List.mem_cons.1 he with rfl | hmem
    · exact (record_updateAll_of_notMem hf es (v.update e.index (f e)) ha).trans (record_update_same v (hf e) hi)
    · have hne : e.index ≠ a.index := fun h => ha (h ▸ List.mem_map.2 ⟨e, hmem, rfl⟩)
      refine (ih (v.update a.index (f a)) hes hmem ?_).trans ?_
      · rwa [update_indices v a.index (hf a)]
      · rw [record_update_other v (hf a) hne]

end UpdateAll

/-! ### The steps of a build -/

/-- What a step that places no tile leaves as it is in its direction: the grants and the needs. It can set a sector's last
recipient of Pass S to a record that takes part. -/
structure FieldsKept (snap : Snapshot) (v v' : DirWork) : Prop where
  grants : v'.grants = v.grants
  needs : v'.records.map (fun r => (r.index, r.need)) = v.records.map fun r => (r.index, r.need)
  lastS : ∀ k i, v'.lastS.get k = some i → v.lastS.get k = some i ∨ ∃ e ∈ snap.entries, e.home = k ∧ e.index = i

/-- One step of a build's passes in a direction: the position moves, fields other than needs and grants change, or the
tile that the scan found for a record with need is placed. -/
inductive BuildStep (snap : Snapshot) (dir : Dir) : Work → Work → Prop
  | reach (w : Work) (pass : Pass) (round : Nat) (e : Entry) : BuildStep snap dir w (w.reach dir pass round e)
  | fields (w : Work) {v : DirWork} : FieldsKept snap (w.at dir) v → BuildStep snap dir w (w.put dir v)
  | place {w : Work} {e : Entry} {t : Nat} (pass : Pass) : e ∈ snap.entries → 0 < ((w.at dir).record e.index).need →
      budgetSpent snap dir w = false → scan snap dir w.occupancy e = some t →
      BuildStep snap dir w (placeTile dir pass e t w)

/-- Some steps of a build's passes in a direction, one after another. -/
abbrev BuildSteps (snap : Snapshot) (dir : Dir) : Work → Work → Prop := Relation.ReflTransGen (BuildStep snap dir)

/-- An update of a record that keeps its need touches neither needs nor grants. -/
theorem fieldsKept_update (snap : Snapshot) (v : DirWork) (i : RecIdx) {f : WorkRecord → WorkRecord}
    (hi : ∀ r, (f r).index = r.index) (hn : ∀ r, (f r).need = r.need) : FieldsKept snap v (v.update i f) where
  grants := rfl
  needs := by
    simp only [DirWork.update, List.map_map]
    refine List.map_congr_left fun r _ => ?_
    simp only [Function.comp]
    split <;> simp only [hi, hn]
  lastS _ _ h := .inl h

theorem FieldsKept.trans {snap : Snapshot} {u v w : DirWork} (h : FieldsKept snap u v) (h' : FieldsKept snap v w) :
    FieldsKept snap u w where
  grants := h'.grants.trans h.grants
  needs := h'.needs.trans h.needs
  lastS k i hi := (h'.lastS k i hi).elim (h.lastS k i) .inr

theorem fieldsKept_updateAll (snap : Snapshot) {f : Entry → WorkRecord → WorkRecord}
    (hi : ∀ e r, (f e r).index = r.index) (hn : ∀ e r, (f e r).need = r.need) (es : List Entry) (v : DirWork) :
    FieldsKept snap v (v.updateAll f es) := by
  unfold DirWork.updateAll
  induction es generalizing v with
  | nil => exact ⟨rfl, rfl, fun _ _ h => .inl h⟩
  | cons e es ih => exact (fieldsKept_update snap v e.index (hi e) (hn e)).trans (ih _)

section Passes

variable {snap : Snapshot} {dir : Dir}

@[simp] theorem reach_at (w : Work) (d dir : Dir) (pass : Pass) (round : Nat) (e : Entry) :
    (w.reach dir pass round e).at d = w.at d := by
  cases d <;> rfl

@[simp] theorem reach_occupancy (w : Work) (dir : Dir) (pass : Pass) (round : Nat) (e : Entry) :
    (w.reach dir pass round e).occupancy = w.occupancy := rfl

/-- An attempt of a record with need is a step. -/
theorem buildSteps_attempt {w : Work} {e : Entry} (pass : Pass) (he : e ∈ snap.entries)
    (hn : 0 < ((w.at dir).record e.index).need) : BuildSteps snap dir w (attempt snap dir pass e w).1 := by
  rcases attempt_cases snap dir pass e w with ⟨-, h⟩ | ⟨hb, t, hs, h⟩ | ⟨-, -, h⟩
  · exact h ▸ .refl
  · exact h ▸ .single (.place pass he hn hb hs)
  · exact h ▸ .single (.fields w (fieldsKept_update snap _ e.index (f := fun r => { r with blocked := true })
      (fun _ => rfl) fun _ => rfl))

theorem need_placeTile (pass : Pass) (e : Entry) (t : Nat) (w : Work) :
    (((placeTile dir pass e t w).at dir).record e.index).need = ((w.at dir).record e.index).need - 1 := by
  rw [placeTile_at_same]
  exact need_placed (w.at dir)

theorem buildSteps_reserve {e : Entry} (he : e ∈ snap.entries) (n : Nat) {w : Work}
    (hn : n ≤ ((w.at dir).record e.index).need) : BuildSteps snap dir w (reserve snap dir e n w) := by
  induction n generalizing w with
  | zero => exact .refl
  | succ n ih =>
    have hstep := buildSteps_attempt (snap := snap) (dir := dir) .r he (by omega : 0 < ((w.at dir).record e.index).need)
    unfold reserve
    rcases attempt_cases snap dir .r e w with ⟨-, h⟩ | ⟨-, t, -, h⟩ | ⟨-, -, h⟩
    · rw [h]
    · rw [h] at hstep ⊢
      exact hstep.trans (ih (by rw [need_placeTile]; omega))
    · rw [h] at hstep ⊢
      exact hstep

theorem buildSteps_turnR {e : Entry} (he : e ∈ snap.entries) (w : Work) : BuildSteps snap dir w (turnR snap dir w e) :=
  .trans (.single (.reach w .r 0 e)) (buildSteps_reserve he _ (by rw [reach_at]; exact Nat.min_le_right _ _))

theorem fieldsKept_spendCredit {e : Entry} (he : e ∈ snap.entries) (v : DirWork) :
    FieldsKept snap v { v.update e.index (fun r => { r with credit := r.credit - 1 }) with
      lastS := v.lastS.set e.home (some e.index) } := by
  have h := fieldsKept_update snap v e.index (f := fun r => { r with credit := r.credit - 1 }) (fun _ => rfl) fun _ => rfl
  refine ⟨h.grants, h.needs, fun k i hi => ?_⟩
  by_cases hk : k = e.home
  · subst hk
    rw [PerSector.get_set_same, Option.some.injEq] at hi
    exact .inr ⟨e, he, rfl, hi⟩
  · rw [PerSector.get_set_other _ _ hk] at hi
    exact .inl hi

theorem buildSteps_turnS {e : Entry} (he : e ∈ snap.entries) (round : Nat) (w : Work) :
    BuildSteps snap dir w (turnS snap dir round w e) := by
  unfold turnS
  dsimp only
  split
  next hturn =>
    have hreach : BuildSteps snap dir w (w.reach dir .s round e) := .single (.reach ..)
    have hstep := hreach.trans (buildSteps_attempt (snap := snap) (dir := dir) .s he (by rw [reach_at]; exact hturn.1))
    rcases attempt_cases snap dir .s e (w.reach dir .s round e) with ⟨-, h⟩ | ⟨-, t, -, h⟩ | ⟨-, -, h⟩ <;>
      rw [h] at hstep ⊢
    · exact hstep
    · exact hstep.tail (.fields _ (fieldsKept_spendCredit he _))
    · exact hstep
  next => exact .refl

theorem buildSteps_turnL {e : Entry} (he : e ∈ snap.entries) (round : Nat) (w : Work) :
    BuildSteps snap dir w (turnL snap dir round w e) := by
  unfold turnL
  dsimp only
  split
  next hturn =>
    exact .trans (.single (.reach ..)) (buildSteps_attempt .l he (by rw [reach_at]; exact hturn.1))
  next => exact .refl

/-- A walk of turns is a sequence of steps. -/
theorem buildSteps_walk {turn : Work → Entry → Work}
    (hturn : ∀ e ∈ snap.entries, ∀ w, BuildSteps snap dir w (turn w e)) (w : Work) :
    BuildSteps snap dir w ((walkOf snap dir).foldl turn w) := by
  have hwalk : ∀ e ∈ walkOf snap dir, e ∈ snap.entries := fun e => mem_entries_of_mem_walkOf
  generalize walkOf snap dir = es at hwalk
  induction es generalizing w with
  | nil => exact .refl
  | cons e es ih =>
    obtain ⟨he, hes⟩ := List.forall_mem_cons.1 hwalk
    exact (hturn e he w).trans (ih _ hes)

theorem buildSteps_rounds {turn : Nat → Work → Entry → Work}
    (hturn : ∀ round, ∀ e ∈ snap.entries, ∀ w, BuildSteps snap dir w (turn round w e)) (fuel round : Nat) (w : Work) :
    BuildSteps snap dir w (rounds snap dir turn fuel round w) := by
  induction fuel generalizing round w with
  | zero => exact .refl
  | succ fuel ih =>
    have hwalk := buildSteps_walk (hturn round) w
    unfold rounds
    dsimp only
    split
    · exact hwalk
    · exact hwalk.trans (ih _ _)

theorem buildSteps_passR (w : Work) : BuildSteps snap dir w (passR snap dir w) :=
  buildSteps_walk (fun _ he w => buildSteps_turnR he w) w

theorem buildSteps_creditUpdate (w : Work) : BuildSteps snap dir w (creditUpdate snap dir w) :=
  .single (.fields w (fieldsKept_updateAll snap (f := WorkRecord.updateCredit) (fun _ _ => rfl) (fun _ _ => rfl) _ _))

theorem buildSteps_passS (w : Work) : BuildSteps snap dir w (passS snap dir w) :=
  buildSteps_rounds (fun round _ he w => buildSteps_turnS he round w) _ _ w

theorem buildSteps_passL (w : Work) : BuildSteps snap dir w (passL snap dir w) :=
  buildSteps_rounds (fun round _ he w => buildSteps_turnL he round w) _ _ w

theorem buildSteps_fixHeads (w : Work) : BuildSteps snap dir w (fixHeads snap dir w) :=
  .single (.fields w ⟨rfl, rfl, fun _ _ h => .inl h⟩)

/-- A direction of a build is a sequence of steps from the needs computed. -/
theorem buildSteps_runDir (w : Work) : BuildSteps snap dir (setNeeds snap dir w) (runDir snap dir w) :=
  (buildSteps_passR _).trans <| (buildSteps_creditUpdate _).trans <| (buildSteps_passS _).trans <|
    (buildSteps_passL _).trans (buildSteps_fixHeads _)

/-- What every step keeps, steps keep. -/
theorem BuildSteps.keeps {P : Work → Prop} (hP : ∀ w w', BuildStep snap dir w w' → P w → P w') {w w' : Work}
    (h : BuildSteps snap dir w w') (hw : P w) : P w' := by
  induction h with
  | refl => exact hw
  | tail _ hstep ih => exact hP _ _ hstep ih

end Passes

/-! ### What the whole build keeps of the assignments -/

/-- A property of the assignments and the downlink count that holds of no assignment, and that each placement of a tile
that the scan found keeps, holds of the whole build. -/
theorem runBuild_keeps {snap : Snapshot} {P : List Assignment → Nat → Prop} (hstart : P [] 0)
    (hplace : ∀ dir pass e t w, e ∈ snap.entries → budgetSpent snap dir w = false →
      scan snap dir w.occupancy e = some t → P w.occupancy w.dlCount →
      P (placeTile dir pass e t w).occupancy (placeTile dir pass e t w).dlCount) :
    P (runBuild snap (Work.start snap)).occupancy (runBuild snap (Work.start snap)).dlCount := by
  have hrun : ∀ dir w, P w.occupancy w.dlCount → P (runDir snap dir w).occupancy (runDir snap dir w).dlCount := by
    intro dir w hw
    refine (buildSteps_runDir w).keeps (P := fun w => P w.occupancy w.dlCount) (fun w w' hstep h => ?_) ?_
    · cases hstep with
      | reach => exact h
      | fields => rwa [put_occupancy, put_dlCount]
      | place pass he _ hb hs => exact hplace dir pass _ _ w he hb hs h
    · rwa [setNeeds_eq, put_occupancy, put_dlCount]
  exact hrun .ul _ (hrun .dl _ hstart)

/-! ### The placement laws (R111, R112, R116) -/

/-- The placement laws on the assignments of a build. -/
structure PlacementLaws (snap : Snapshot) (occ : List Assignment) : Prop where
  oneAssignee : OneAssigneePerTile occ
  reuse : ReuseRespected snap occ
  barsAndEdge : BarsAndEdgeRespected snap occ
  tiles : ∀ a ∈ occ, a.tile < 96 ∨ 16 < snap.d

/-- A sector is not adjacent to itself. -/
theorem between_self (a : Adjacency) (k : SectorId) : a.between k k = false := by
  cases k <;> rfl

/-- The placement of a tile that the scan found keeps the placement laws. -/
theorem PlacementLaws.append {snap : Snapshot} {dir : Dir} {occ : List Assignment} {e : Entry} {t : Nat}
    (h : PlacementLaws snap occ) (he : e ∈ snap.entries) (hs : scan snap dir occ e = some t) :
    PlacementLaws snap (occ ++ [{ sector := e.home, tile := t, index := e.index, outer := e.outer }]) := by
  obtain ⟨hdir, hq, -⟩ := scan_some hs
  obtain ⟨hfree, hbar, hreuse, hedge⟩ := (qualifies_iff ..).1 hq
  refine ⟨?_, fun a ha b hb hab hadj => ?_, fun a ha => ?_, fun a ha => ?_⟩
  · rw [OneAssigneePerTile, List.map_append, List.nodup_append]
    refine ⟨h.oneAssignee, List.nodup_singleton _, fun p hp q hq' hpq => ?_⟩
    obtain ⟨a, ha, rfl⟩ := List.mem_map.1 hp
    obtain rfl := List.mem_singleton.1 hq'
    exact hfree a ha ⟨congrArg Prod.fst hpq, congrArg Prod.snd hpq⟩
  · rcases List.mem_append.1 ha with ha | ha <;> rcases List.mem_append.1 hb with hb | hb
    · exact h.reuse a ha b hb hab hadj
    · obtain rfl := List.mem_singleton.1 hb
      exact (hreuse a ha hab (by rwa [between_comm])).symm
    · obtain rfl := List.mem_singleton.1 ha
      exact hreuse b hb hab.symm hadj
    · obtain rfl := List.mem_singleton.1 ha
      obtain rfl := List.mem_singleton.1 hb
      rw [between_self] at hadj
      cases hadj
  · rcases List.mem_append.1 ha with ha | ha
    · exact h.barsAndEdge a ha
    · obtain rfl := List.mem_singleton.1 ha
      exact ⟨hbar, e, he, rfl, rfl, hedge⟩
  · rcases List.mem_append.1 ha with ha | ha
    · exact h.tiles a ha
    · obtain rfl := List.mem_singleton.1 ha
      exact (mem_dirTiles hdir).2

theorem placementLaws_runBuild (snap : Snapshot) : PlacementLaws snap (runBuild snap (Work.start snap)).occupancy := by
  refine runBuild_keeps (P := fun occ _ => PlacementLaws snap occ) ?_ fun dir pass e t w he _ hs h => ?_
  · have hnone : ∀ (Q : Assignment → Prop) (a : Assignment), a ∈ [] → Q a := fun _ _ ha => absurd ha List.not_mem_nil
    exact ⟨List.nodup_nil, hnone _, hnone _, hnone _⟩
  · rw [placeTile_occupancy]
    exact h.append he hs

/-- Settles O19: each placement keeps the laws, by the four conditions of the scan. -/
theorem placementLawsHold : Obligations.PlacementLawsHold := by
  intro snap
  obtain ⟨hone, hreuse, hbars, htiles⟩ := placementLaws_runBuild snap
  exact ⟨hone, hreuse, hbars, htiles⟩

/-! ### The budget law (R98) and the credit update (R95) -/

/-- The count that the build keeps is that of the downlink's assignments, within the budget. -/
theorem budget_runBuild (snap : Snapshot) : BudgetRespected snap (runBuild snap (Work.start snap)) := by
  refine runBuild_keeps
    (P := fun occ n => n ≤ snap.budget ∧ n = occ.countP fun a => decide (a.tile < 6 * snap.d)) ⟨Nat.zero_le _, rfl⟩
    fun dir pass e t w _ hb hs h => ?_
  obtain ⟨hle, hcount⟩ := h
  have hdir := (mem_dirTiles (scan_some hs).1).1
  rw [placeTile_occupancy, placeTile_dlCount, List.countP_append, ← hcount]
  cases dir with
  | dl =>
    have ht : t < 6 * snap.d := by simpa [inDir] using hdir
    have hroom : ¬snap.budget ≤ w.dlCount := by simpa [budgetSpent] using hb
    exact ⟨by dsimp only; omega, by simp [ht]⟩
  | ul =>
    have ht : 6 * snap.d ≤ t := by simpa [inDir] using hdir
    exact ⟨hle, by simp [ht]⟩

/-- Settles O20: every placement of the downlink finds the budget not reached; and the credit update is one update of each
record that takes part. -/
theorem budgetLawHolds : Obligations.BudgetLawHolds := by
  refine ⟨budget_runBuild, fun snap dir w e hnodup he hindices => ?_⟩
  have hi : e.index ∈ (w.at dir).records.map WorkRecord.index := hindices ▸ List.mem_map.2 ⟨e, he, rfl⟩
  intro before after
  have hafter : after = WorkRecord.updateCredit e before := by
    show ((creditUpdate snap dir w).at dir).record e.index = _
    rw [creditUpdate_eq, work_at_put_same]
    exact record_updateAll (f := WorkRecord.updateCredit) (fun _ _ => rfl) snap.entries _ hnodup he hi
  rw [hafter]
  exact ⟨rfl, rfl, rfl⟩

end Sys2Proof.Machine
end

section
/-! The grants of a build: what each direction's grants obey at every step (R90, R100, R120), and the statement about need. -/

namespace Sys2Proof.Machine

open Sys2Proof.Safety

/-! ### A tile joins a record's grant (R100) -/

/-- The assignments that a grant stands for. -/
def WorkGrant.assigned (g : WorkGrant) : List Assignment :=
  g.tiles.map fun t => { sector := g.entry.home, tile := t, index := g.entry.index, outer := g.entry.outer }

/-- The assignments that the grants of a direction stand for. -/
def DirWork.assigned (v : DirWork) : List Assignment := v.grants.flatMap WorkGrant.assigned

/-- The grant of a record before its first tile. -/
def WorkGrant.fresh (e : Entry) : WorkGrant := { entry := e, tiles := [], nR := 0, nS := 0, nL := 0 }

@[simp] theorem add_entry (pass : Pass) (t : Nat) (g : WorkGrant) : (g.add pass t).entry = g.entry := by
  cases pass <;> rfl

@[simp] theorem add_tiles (pass : Pass) (t : Nat) (g : WorkGrant) : (g.add pass t).tiles = g.tiles ++ [t] := by
  cases pass <;> rfl

/-- A tile is counted under its pass. -/
theorem add_counts (pass : Pass) (t : Nat) (g : WorkGrant) :
    (g.add pass t).nR + (g.add pass t).nS + (g.add pass t).nL = g.nR + g.nS + g.nL + 1 := by
  cases pass <;> simp only [WorkGrant.add] <;> omega

theorem assigned_add (pass : Pass) (t : Nat) (g : WorkGrant) : (g.add pass t).assigned =
    g.assigned ++ [{ sector := g.entry.home, tile := t, index := g.entry.index, outer := g.entry.outer }] := by
  simp [WorkGrant.assigned]

/-- A tile joins the grant of its record. -/
theorem addToGrant_of_mem (pass : Pass) {e : Entry} (t : Nat) {as bs : List WorkGrant} {g : WorkGrant}
    (hnodup : ((as ++ g :: bs).map fun g => g.entry.index).Nodup) (hg : g.entry.index = e.index) :
    addToGrant pass e t (as ++ g :: bs) = as ++ g.add pass t :: bs := by
  have hany : ((as ++ g :: bs).any fun g => decide (g.entry.index = e.index)) = true := by
    rw [List.any_eq_true]
    exact ⟨g, by simp, decide_eq_true hg⟩
  have hother : ∀ cs : List WorkGrant, (∀ c ∈ cs, c.entry.index ≠ g.entry.index) →
      (cs.map fun c => if c.entry.index = e.index then c.add pass t else c) = cs := fun cs hcs => by
    conv_rhs => rw [← List.map_id cs]
    exact List.map_congr_left fun c hc => if_neg (hg ▸ hcs c hc)
  rw [List.map_append, List.map_cons, List.nodup_append, List.nodup_cons] at hnodup
  obtain ⟨-, ⟨hb, -⟩, ha⟩ := hnodup
  rw [addToGrant, if_pos hany, List.map_append, List.map_cons, if_pos hg, hother as, hother bs]
  · exact fun c hc h => hb (List.mem_map.2 ⟨c, hc, h⟩)
  · exact fun c hc => ha _ (List.mem_map.2 ⟨c, hc, rfl⟩) _ (List.mem_cons_self ..)

/-- The first tile of a record starts its grant, after those already started. -/
theorem addToGrant_of_notMem (pass : Pass) {e : Entry} (t : Nat) {gs : List WorkGrant}
    (h : ∀ g ∈ gs, g.entry.index ≠ e.index) : addToGrant pass e t gs = gs ++ [(WorkGrant.fresh e).add pass t] := by
  have hany : ¬(gs.any fun g => decide (g.entry.index = e.index)) = true := by
    rw [List.any_eq_true]
    exact fun ⟨g, hg, hge⟩ => h g hg (of_decide_eq_true hge)
  rw [addToGrant, if_neg hany]
  rfl

/-- Two entries of a snapshot with the same record are the same. -/
theorem entry_unique {snap : Snapshot} (hnodup : (snap.entries.map Entry.index).Nodup) {e d : Entry}
    (he : e ∈ snap.entries) (hd : d ∈ snap.entries) (h : e.index = d.index) : e = d :=
  List.inj_on_of_nodup_map hnodup he hd h

/-- The grants with one tile more: one grant, the record's, has grown, and it stood among them before or was started. -/
theorem addToGrant_cases {snap : Snapshot} (hentries : (snap.entries.map Entry.index).Nodup) {gs : List WorkGrant}
    (hnodup : (gs.map fun g => g.entry.index).Nodup) (hgs : ∀ g ∈ gs, g.entry ∈ snap.entries) {e : Entry}
    (he : e ∈ snap.entries) (pass : Pass) (t : Nat) :
    ∃ as g bs, g.entry = e ∧ addToGrant pass e t gs = as ++ g.add pass t :: bs ∧
      (gs = as ++ g :: bs ∨ gs = as ++ bs ∧ g = .fresh e ∧ ∀ c ∈ gs, c.entry.index ≠ e.index) := by
  by_cases hmem : ∃ g ∈ gs, g.entry.index = e.index
  · obtain ⟨g, hg, hge⟩ := hmem
    obtain ⟨as, bs, rfl⟩ := List.append_of_mem hg
    exact ⟨as, g, bs, entry_unique hentries (hgs g hg) he hge, addToGrant_of_mem pass t hnodup hge, .inl rfl⟩
  · have hnone : ∀ g ∈ gs, g.entry.index ≠ e.index := fun g hg h => hmem ⟨g, hg, h⟩
    exact ⟨gs, .fresh e, [], rfl, addToGrant_of_notMem pass t hnone, .inr ⟨(List.append_nil gs).symm, rfl, hnone⟩⟩

/-! ### One grant -/

/-- A grant is of a record that takes part; it counts its tiles by pass; its tiles are of its direction, ascending; and no
tile up to one that it holds qualifies for it any more. -/
structure GrantLaws (snap : Snapshot) (dir : Dir) (occ : List Assignment) (g : WorkGrant) : Prop where
  entry : g.entry ∈ snap.entries
  counts : g.tiles.length = g.nR + g.nS + g.nL
  tiles : ∀ t ∈ g.tiles, t ∈ dirTiles snap.d dir
  ascending : g.tiles.Pairwise (· < ·)
  passed : ∀ u ∈ g.tiles, ∀ t ∈ dirTiles snap.d dir, t ≤ u → qualifies snap occ g.entry t = false

section GrantLaws

variable {snap : Snapshot} {dir : Dir} {occ : List Assignment} {g : WorkGrant}

theorem grantLaws_fresh (occ : List Assignment) {e : Entry} (he : e ∈ snap.entries) :
    GrantLaws snap dir occ (.fresh e) where
  entry := he
  counts := rfl
  tiles _ h := absurd h List.not_mem_nil
  ascending := .nil
  passed _ h := absurd h List.not_mem_nil

/-- A tile that does not qualify does not after more assignments. -/
theorem qualifies_append {e : Entry} {t : Nat} (as : List Assignment) (h : qualifies snap occ e t = false) :
    qualifies snap (occ ++ as) e t = false := by
  rw [← Bool.not_eq_true, qualifies_iff] at h ⊢
  exact fun ⟨hfree, hbar, hreuse, hedge⟩ => h
    ⟨fun a ha => hfree a (List.mem_append_left as ha), hbar, fun a ha => hreuse a (List.mem_append_left as ha), hedge⟩

/-- An assigned tile does not qualify again in its sector. -/
theorem qualifies_of_mem {e : Entry} {a : Assignment} (ha : a ∈ occ) (hs : a.sector = e.home) :
    qualifies snap occ e a.tile = false := by
  rw [← Bool.not_eq_true, qualifies_iff]
  exact fun ⟨hfree, _⟩ => hfree a ha ⟨hs, rfl⟩

theorem GrantLaws.append (h : GrantLaws snap dir occ g) (as : List Assignment) : GrantLaws snap dir (occ ++ as) g where
  entry := h.entry
  counts := h.counts
  tiles := h.tiles
  ascending := h.ascending
  passed u hu t ht htu := qualifies_append as (h.passed u hu t ht htu)

/-- The tile that the scan found for a grant's record lies above the tiles that the grant holds. -/
theorem GrantLaws.lt_of_scan (h : GrantLaws snap dir occ g) {t : Nat} (hs : scan snap dir occ g.entry = some t) :
    ∀ u ∈ g.tiles, u < t := by
  intro u hu
  obtain ⟨hdir, hq, -⟩ := scan_some hs
  rcases Nat.lt_or_ge u t with hlt | hge
  · exact hlt
  · rw [h.passed u hu t hdir hge] at hq
    cases hq

/-- The grant with the tile that the scan found. -/
theorem GrantLaws.add (h : GrantLaws snap dir occ g) {t : Nat} (hs : scan snap dir occ g.entry = some t) (pass : Pass) :
    GrantLaws snap dir
      (occ ++ [{ sector := g.entry.home, tile := t, index := g.entry.index, outer := g.entry.outer }]) (g.add pass t) where
  entry := by rw [add_entry]; exact h.entry
  counts := by rw [add_tiles, add_counts, List.length_append, h.counts]; rfl
  tiles u hu := by
    rw [add_tiles] at hu
    rcases List.mem_append.1 hu with hu | hu
    · exact h.tiles u hu
    · exact List.mem_singleton.1 hu ▸ (scan_some hs).1
  ascending := by
    rw [add_tiles, List.pairwise_append]
    exact ⟨h.ascending, List.pairwise_singleton .., fun u hu v hv => List.mem_singleton.1 hv ▸ h.lt_of_scan hs u hu⟩
  passed u hu v hv hvu := by
    obtain ⟨-, -, hlow⟩ := scan_some hs
    rw [add_tiles] at hu
    rw [add_entry]
    rcases List.mem_append.1 hu with hu | hu
    · exact qualifies_append _ (h.passed u hu v hv hvu)
    · obtain rfl := List.mem_singleton.1 hu
      rcases Nat.lt_or_ge v u with hlt | hge
      · exact qualifies_append _ (hlow v hv hlt)
      · obtain rfl : v = u := by omega
        exact qualifies_of_mem (a := ⟨g.entry.home, v, g.entry.index, g.entry.outer⟩) (List.mem_append_right _ (.head _)) rfl

end GrantLaws

/-! ### The grants of a direction -/

/-- The tiles that the grants of a direction hold for a record. -/
def DirWork.granted (v : DirWork) (i : RecIdx) : Nat := v.assigned.countP fun a => decide (a.index = i)

/-- What the grants and needs of a direction obey at every step of a build, once the needs are computed: a record has one
grant at most, never an empty one, and what it still needs is its need less what it was granted. -/
structure DirLaws (snap : Snapshot) (dir : Dir) (w : Work) : Prop where
  indices : (w.at dir).records.map WorkRecord.index = snap.entries.map Entry.index
  oneGrant : ((w.at dir).grants.map fun g => g.entry.index).Nodup
  grants : ∀ g ∈ (w.at dir).grants, GrantLaws snap dir w.occupancy g ∧ 1 ≤ g.tiles.length
  needs : ∀ e ∈ snap.entries, (w.at dir).granted e.index + ((w.at dir).record e.index).need = needOf e dir

section DirLaws

variable {snap : Snapshot} {dir : Dir} {w : Work}

/-- Needs are read off the records' indices and needs alone. -/
theorem FieldsKept.need {v v' : DirWork} (h : FieldsKept snap v v') (i : RecIdx) :
    (v'.record i).need = (v.record i).need := by
  have hfind : ∀ rs : List WorkRecord, ((rs.find? fun r => decide (r.index = i)).map WorkRecord.need) =
      (((rs.map fun r => (r.index, r.need)).find? fun p => decide (p.1 = i)).map Prod.snd) := fun rs => by
    rw [List.find?_map, Option.map_map]
    rfl
  have hread : ∀ u : DirWork, (u.record i).need =
      ((u.records.find? fun r => decide (r.index = i)).map WorkRecord.need).getD 0 := fun u => by
    rw [DirWork.record]
    cases u.records.find? fun r => decide (r.index = i) <;> rfl
  rw [hread, hread, hfind, hfind, h.needs]

theorem FieldsKept.indices {v v' : DirWork} (h : FieldsKept snap v v') :
    v'.records.map WorkRecord.index = v.records.map WorkRecord.index := by
  have := congrArg (List.map Prod.fst) h.needs
  rwa [List.map_map, List.map_map] at this

theorem FieldsKept.granted {v v' : DirWork} (h : FieldsKept snap v v') (i : RecIdx) : v'.granted i = v.granted i := by
  rw [DirWork.granted, DirWork.granted, DirWork.assigned, DirWork.assigned, h.grants]

theorem DirLaws.fields (h : DirLaws snap dir w) {v : DirWork} (hv : FieldsKept snap (w.at dir) v) :
    DirLaws snap dir (w.put dir v) where
  indices := by rw [work_at_put_same, hv.indices, h.indices]
  oneGrant := by rw [work_at_put_same, hv.grants]; exact h.oneGrant
  grants := by rw [work_at_put_same, hv.grants, put_occupancy]; exact h.grants
  needs e he := by rw [work_at_put_same, hv.granted, hv.need]; exact h.needs e he

/-- A placement adds its assignment to those that the direction's grants stand for. -/
theorem assigned_placeTile (hentries : (snap.entries.map Entry.index).Nodup) (h : DirLaws snap dir w) {e : Entry}
    (he : e ∈ snap.entries) (pass : Pass) (t : Nat) :
    ((placeTile dir pass e t w).at dir).assigned.Perm ((w.at dir).assigned ++
      [{ sector := e.home, tile := t, index := e.index, outer := e.outer }]) := by
  obtain ⟨as, g, bs, rfl, hadd, hbefore⟩ := addToGrant_cases hentries h.oneGrant (fun g hg => (h.grants g hg).1.entry) he pass t
  rw [placeTile_at_same, DirWork.assigned, DirWork.assigned, hadd, List.flatMap_append, List.flatMap_cons, assigned_add]
  rcases hbefore with hgs | ⟨hgs, hfresh, -⟩
  · rw [hgs, List.flatMap_append, List.flatMap_cons]
    simp only [List.append_assoc]
    exact (List.perm_append_comm.append_left _).append_left _
  · rw [hgs, List.flatMap_append, hfresh]
    simp only [WorkGrant.assigned, WorkGrant.fresh, List.map_nil, List.nil_append, List.append_assoc]
    exact List.perm_append_comm.append_left _

theorem granted_placeTile (hentries : (snap.entries.map Entry.index).Nodup) (h : DirLaws snap dir w) {e : Entry}
    (he : e ∈ snap.entries) (pass : Pass) (t : Nat) (i : RecIdx) :
    ((placeTile dir pass e t w).at dir).granted i = (w.at dir).granted i + if e.index = i then 1 else 0 := by
  rw [DirWork.granted, (assigned_placeTile hentries h he pass t).countP_eq, List.countP_append, List.countP_singleton]
  simp only [decide_eq_true_eq]
  rfl

theorem DirLaws.place (hentries : (snap.entries.map Entry.index).Nodup) (h : DirLaws snap dir w) {e : Entry} {t : Nat}
    (pass : Pass) (he : e ∈ snap.entries) (hn : 0 < ((w.at dir).record e.index).need)
    (hs : scan snap dir w.occupancy e = some t) : DirLaws snap dir (placeTile dir pass e t w) where
  indices := by
    rw [placeTile_at_same]
    exact (update_indices _ _ (f := fun r => { r with need := r.need - 1 }) fun _ => rfl).trans h.indices
  oneGrant := by
    obtain ⟨as, g, bs, hg, hadd, hbefore⟩ :=
      addToGrant_cases hentries h.oneGrant (fun g hg => (h.grants g hg).1.entry) he pass t
    have hnodup := h.oneGrant
    rw [placeTile_at_same]
    simp only [hadd, List.map_append, List.map_cons, add_entry]
    rcases hbefore with hgs | ⟨hgs, -, hnone⟩
    · rwa [hgs, List.map_append, List.map_cons] at hnodup
    · rw [List.nodup_middle, List.nodup_cons, ← List.map_append, ← hgs, hg]
      exact ⟨fun hmem => (List.mem_map.1 hmem).elim fun c hc => hnone c hc.1 hc.2, hnodup⟩
  grants := by
    obtain ⟨as, g, bs, rfl, hadd, hbefore⟩ :=
      addToGrant_cases hentries h.oneGrant (fun g hg => (h.grants g hg).1.entry) he pass t
    have hg : GrantLaws snap dir w.occupancy g := by
      rcases hbefore with hgs | ⟨-, hfresh, -⟩
      · exact (h.grants g (by simp [hgs])).1
      · exact hfresh ▸ grantLaws_fresh _ he
    have hold : ∀ c ∈ as ++ bs, c ∈ (w.at dir).grants := fun c hc => by
      rcases hbefore with hgs | ⟨hgs, -⟩ <;> rw [hgs]
      · exact ((List.sublist_cons_self g bs).append_left as).subset hc
      · exact hc
    rw [placeTile_at_same, placeTile_occupancy]
    simp only [hadd]
    intro c hc
    rcases List.mem_cons.1 (List.perm_middle.mem_iff.1 hc) with rfl | hc
    · exact ⟨hg.add hs pass, by simp⟩
    · exact ⟨(h.grants c (hold c hc)).1.append _, (h.grants c (hold c hc)).2⟩
  needs d hd := by
    have hneed := h.needs d hd
    rw [granted_placeTile hentries h he]
    by_cases hde : e.index = d.index
    · rw [← hde] at hneed
      rw [if_pos hde, ← hde, need_placeTile]
      omega
    · rw [if_neg hde, placeTile_at_same]
      exact (congrArg (fun n => _ + 0 + WorkRecord.need n)
        (record_update_other (w.at dir) (f := fun r => { r with need := r.need - 1 }) (fun _ => rfl) (Ne.symm hde))).trans hneed

/-- The other direction's steps only add assignments. -/
theorem DirLaws.other {w' : Work} (h : DirLaws snap dir w) (hat : w'.at dir = w.at dir)
    (hocc : ∃ as, w'.occupancy = w.occupancy ++ as) : DirLaws snap dir w' := by
  obtain ⟨as, has⟩ := hocc
  exact ⟨by rw [hat]; exact h.indices, by rw [hat]; exact h.oneGrant,
    by rw [hat, has]; exact fun g hg => ⟨(h.grants g hg).1.append as, (h.grants g hg).2⟩, by rw [hat]; exact h.needs⟩

/-- A step leaves the other direction's working fields alone. -/
theorem BuildStep.at_other {w' : Work} {other : Dir} (hstep : BuildStep snap dir w w') (h : other ≠ dir) :
    w'.at other = w.at other := by
  cases hstep with
  | reach pass round e => exact reach_at ..
  | fields => exact work_at_put_other _ _ h
  | place pass => exact placeTile_at_other h ..

/-- A step adds to the assignments, or leaves them. -/
theorem BuildStep.occupancy {w' : Work} (hstep : BuildStep snap dir w w') :
    ∃ as, w'.occupancy = w.occupancy ++ as := by
  cases hstep with
  | reach => exact ⟨[], (List.append_nil _).symm⟩
  | fields => exact ⟨[], by rw [put_occupancy, List.append_nil]⟩
  | place => exact ⟨_, placeTile_occupancy ..⟩

/-- Every step of a build keeps the laws of both directions' grants. -/
theorem DirLaws.step (hentries : (snap.entries.map Entry.index).Nodup) {w' : Work} {stepDir : Dir}
    (hstep : BuildStep snap stepDir w w') (h : DirLaws snap dir w) : DirLaws snap dir w' := by
  by_cases hdir : dir = stepDir
  · subst hdir
    cases hstep with
    | reach pass round e => exact h.other (reach_at ..) ⟨[], (List.append_nil _).symm⟩
    | fields hv => exact h.fields hv
    | place pass he hn _ hs => exact h.place hentries pass he hn hs
  · exact h.other (hstep.at_other hdir) hstep.occupancy

theorem DirLaws.steps (hentries : (snap.entries.map Entry.index).Nodup) {w' : Work} {stepDir : Dir}
    (hsteps : BuildSteps snap stepDir w w') (h : DirLaws snap dir w) : DirLaws snap dir w' :=
  hsteps.keeps (fun _ _ hstep h => h.step hentries hstep) h

/-- The laws hold once the needs of the direction are computed, nothing being granted before. -/
theorem dirLaws_setNeeds (hentries : (snap.entries.map Entry.index).Nodup)
    (hindices : (w.at dir).records.map WorkRecord.index = snap.entries.map Entry.index) (hgrants : (w.at dir).grants = []) :
    DirLaws snap dir (setNeeds snap dir w) := by
  let f : Entry → WorkRecord → WorkRecord := fun e r => { r with need := needOf e dir }
  have hgrants' : ((setNeeds snap dir w).at dir).grants = [] := by
    rw [setNeeds_eq, work_at_put_same, updateAll_fields]
    exact hgrants
  refine ⟨?_, by rw [hgrants']; exact List.nodup_nil, by rw [hgrants']; exact fun _ h => absurd h List.not_mem_nil,
    fun e he => ?_⟩
  · rw [setNeeds_eq, work_at_put_same]
    exact (updateAll_indices (f := f) (fun _ _ => rfl) snap.entries (w.at dir)).trans hindices
  · have hrecord := record_updateAll (f := f) (fun _ _ => rfl) snap.entries (w.at dir) hentries he
      (hindices ▸ List.mem_map.2 ⟨e, he, rfl⟩)
    rw [DirWork.granted, DirWork.assigned, hgrants', setNeeds_eq, work_at_put_same, hrecord]
    exact Nat.zero_add _

end DirLaws

/-! ### The whole build -/

section WholeBuild

variable {snap : Snapshot}

/-- The records of a build start are those that take part. -/
theorem indices_start (dir : Dir) :
    ((Work.start snap).at dir).records.map WorkRecord.index = snap.entries.map Entry.index := by
  cases dir <;> exact List.map_map ..

theorem grants_start (dir : Dir) : ((Work.start snap).at dir).grants = [] := by
  cases dir <;> rfl

/-- Running a direction leaves the other's working fields alone. -/
theorem runDir_at_other {dir other : Dir} (h : other ≠ dir) (w : Work) : (runDir snap dir w).at other = w.at other := by
  refine (buildSteps_runDir w).keeps (P := fun u => u.at other = w.at other)
    (fun _ _ hstep hu => (hstep.at_other h).trans hu) ?_
  rw [setNeeds_eq]
  exact work_at_put_other w _ h

/-- What holds for one more direction: the needs of the other change nothing of this one. -/
theorem DirLaws.setNeeds_other {dir other : Dir} {w : Work} (h : DirLaws snap dir w) (hd : dir ≠ other) :
    DirLaws snap dir (setNeeds snap other w) :=
  h.other (by rw [setNeeds_eq]; exact work_at_put_other w _ hd)
    ⟨[], by rw [setNeeds_eq, put_occupancy, List.append_nil]⟩

variable (hentries : (snap.entries.map Entry.index).Nodup)
include hentries

theorem dirLaws_dl : DirLaws snap .dl (runDir snap .dl (Work.start snap)) :=
  (dirLaws_setNeeds hentries (indices_start .dl) (grants_start .dl)).steps hentries (buildSteps_runDir _)

/-- The grants of both directions obey the laws at the end of the build. -/
theorem dirLaws_runBuild (dir : Dir) : DirLaws snap dir (runBuild snap (Work.start snap)) := by
  cases dir with
  | dl => exact ((dirLaws_dl hentries).setNeeds_other (by decide)).steps hentries (buildSteps_runDir _)
  | ul =>
    have hat : (runDir snap .dl (Work.start snap)).at .ul = (Work.start snap).at .ul := runDir_at_other (by decide) _
    refine (dirLaws_setNeeds hentries ?_ ?_).steps hentries (buildSteps_runDir _) <;> rw [hat]
    · exact indices_start .ul
    · exact grants_start .ul

end WholeBuild

/-! ### Need and grants (R90, R100, R120) -/

/-- A grant holds no more than what its record was granted. -/
theorem length_le_granted {v : DirWork} {g : WorkGrant} (hg : g ∈ v.grants) : g.tiles.length ≤ v.granted g.entry.index := by
  obtain ⟨as, bs, hgs⟩ := List.append_of_mem hg
  have hown : g.assigned.countP (fun a => decide (a.index = g.entry.index)) = g.tiles.length := by
    rw [List.countP_eq_length.2 fun a ha => ?_, WorkGrant.assigned, List.length_map]
    obtain ⟨t, -, rfl⟩ := List.mem_map.1 ha
    exact decide_eq_true rfl
  rw [DirWork.granted, DirWork.assigned, hgs, List.flatMap_append, List.flatMap_cons, List.countP_append,
    List.countP_append, hown]
  omega

/-- A record's need is at most its cap (R90). -/
theorem needOf_le_cap (e : Entry) (dir : Dir) : needOf e dir ≤ e.terms.cap := by
  unfold needOf
  split
  · exact Nat.zero_le _
  · exact Nat.min_le_right _ _

theorem DirLaws.grantsWithinNeed {snap : Snapshot} {dir : Dir} {w : Work} (h : DirLaws snap dir w) :
    GrantsWithinNeed (w.at dir) dir := by
  refine ⟨h.oneGrant, fun g hg => ?_⟩
  obtain ⟨hlaws, hne⟩ := h.grants g hg
  have hle : g.tiles.length ≤ needOf g.entry dir := by
    have := length_le_granted hg
    have := h.needs g.entry hlaws.entry
    omega
  exact ⟨hlaws.counts, hne, hlaws.ascending, hle, hle.trans (needOf_le_cap _ _)⟩

/-- A full tile carries something in every class but 0 (R3). -/
theorem classBytes_pos {c : Nat} (h : c ≠ 0) : 0 < classBytes c := by
  unfold classBytes
  split <;> omega

/-- Settles O21: a grant and what its record still needs make up the record's need at every step, and the scan's lowest
tile only moves up. -/
theorem grantsWithinNeedHold : Obligations.GrantsWithinNeedHold := by
  refine ⟨fun e dir => ⟨fun h => if_pos h, fun hc hd => ?_⟩, fun snap hentries => ?_⟩
  · obtain ⟨hge, hlt⟩ := ceilDiv_bounds (classBytes_pos hc) (e.demand dir)
    exact ⟨_, hlt, hge, if_neg (not_or.2 ⟨hc, hd⟩)⟩
  · exact ⟨(dirLaws_runBuild hentries .dl).grantsWithinNeed, (dirLaws_runBuild hentries .ul).grantsWithinNeed⟩

end Sys2Proof.Machine
end

section
/-! The plan that a build hands over (R100, R101, R111, R117, R118, R122, R124): the assignments are those that the grants
stand for, and the summaries count them. -/

namespace Sys2Proof.Machine

open Sys2Proof.Safety

/-! ### Snapshots as a build start takes them -/

/-- No two entries of a snapshot are of one record. -/
theorem entries_nodup_of_snapshotOk {snap : Snapshot} (h : SnapshotOk snap) : (snap.entries.map Entry.index).Nodup := by
  obtain ⟨-, -, hnodup, hsectors⟩ := h
  refine hnodup.sublist ?_
  rw [Snapshot.entries, List.map_flatMap]
  have hsub : ∀ vs : List SnapSector, (∀ v ∈ vs, ∀ r ∈ v.ring, ∀ e ∈ r.entry, e.index = r.index) →
      (vs.flatMap fun v => (v.ring.filterMap SnapRecord.entry).map Entry.index).Sublist
        (vs.flatMap fun v => v.ring.map SnapRecord.index) := fun vs hvs => by
    have hring : ∀ rs : List SnapRecord, (∀ r ∈ rs, ∀ e ∈ r.entry, e.index = r.index) →
        ((rs.filterMap SnapRecord.entry).map Entry.index).Sublist (rs.map SnapRecord.index) := fun rs hrs => by
      induction rs with
      | nil => exact .slnil
      | cons r rs ih =>
        obtain ⟨hr, hrs⟩ := List.forall_mem_cons.1 hrs
        rcases Option.eq_none_or_eq_some r.entry with he | ⟨e, he⟩
        · rw [List.filterMap_cons_none he]
          exact (ih hrs).cons _
        · rw [List.filterMap_cons_some he, List.map_cons, List.map_cons, hr e he]
          exact (ih hrs).cons_cons _
    induction vs with
    | nil => exact .slnil
    | cons v vs ih =>
      obtain ⟨hv, hvs⟩ := List.forall_mem_cons.1 hvs
      exact (hring v.ring hv).append (ih hvs)
  exact hsub snap.sectors fun v hv r hr e he => ((hsectors v hv).1 r hr e he).1

/-- A tile of a direction is not of the other (R110). -/
theorem dir_of_mem_dirTiles {snap : Snapshot} (h : SnapshotOk snap) {dir : Dir} {t : Nat} (ht : t ∈ dirTiles snap.d dir) :
    t < 96 ∧ (dir = .dl ↔ t < 6 * snap.d) := by
  obtain ⟨⟨-, hd⟩, -⟩ := h
  obtain ⟨hin, hlt⟩ := mem_dirTiles ht
  cases dir <;> simp only [inDir, decide_eq_true_eq] at hin <;> simp <;> omega

/-! ### The assignments are those of the grants -/

/-- The assignments are those that the grants of both directions stand for. -/
def AssignedAre (w : Work) : Prop := w.occupancy.Perm ((w.at .dl).assigned ++ (w.at .ul).assigned)

section AssignedAre

variable {snap : Snapshot} {dir : Dir} {w w' : Work}

theorem AssignedAre.congr (h : AssignedAre w) (hocc : w'.occupancy = w.occupancy)
    (hgrants : ∀ d, (w'.at d).grants = (w.at d).grants) : AssignedAre w' := by
  unfold AssignedAre DirWork.assigned
  rw [hocc, hgrants, hgrants]
  exact h

theorem grants_put (w : Work) {v : DirWork} (hv : v.grants = (w.at dir).grants) (d : Dir) :
    ((w.put dir v).at d).grants = (w.at d).grants := by
  by_cases hd : d = dir
  · subst hd
    rw [work_at_put_same, hv]
  · rw [work_at_put_other w v hd]

/-- A step of a direction whose grants obey their laws keeps the assignments those of the grants. -/
theorem AssignedAre.step (hentries : (snap.entries.map Entry.index).Nodup) (hstep : BuildStep snap dir w w')
    (hlaws : DirLaws snap dir w) (h : AssignedAre w) : AssignedAre w' := by
  cases hstep with
  | reach pass round e => exact h.congr rfl fun d => by rw [reach_at]
  | fields hv => exact h.congr (put_occupancy ..) (grants_put w hv.grants)
  | @place e t pass he =>
    have hplaced := assigned_placeTile hentries hlaws he pass t
    rw [AssignedAre, placeTile_occupancy]
    refine (List.Perm.append_right _ h).trans ?_
    cases dir with
    | dl =>
      rw [placeTile_at_other (by decide : Dir.ul ≠ .dl)]
      refine .trans ?_ (hplaced.symm.append_right _)
      rw [List.append_assoc, List.append_assoc]
      exact List.perm_append_comm.append_left _
    | ul =>
      rw [placeTile_at_other (by decide : Dir.dl ≠ .ul), List.append_assoc]
      exact hplaced.symm.append_left _

theorem AssignedAre.runDir (hentries : (snap.entries.map Entry.index).Nodup) (hlaws : DirLaws snap dir (setNeeds snap dir w))
    (h : AssignedAre w) : AssignedAre (runDir snap dir w) := by
  refine ((buildSteps_runDir w).keeps (P := fun u => DirLaws snap dir u ∧ AssignedAre u) (fun u u' hstep hu => ?_) ?_).2
  · exact ⟨hu.1.step hentries hstep, hu.2.step hentries hstep hu.1⟩
  · refine ⟨hlaws, h.congr ?_ ?_⟩
    · rw [setNeeds_eq, put_occupancy]
    · rw [setNeeds_eq]
      exact grants_put w (by rw [updateAll_fields])

/-- At the end of a build the assignments are those of the grants. -/
theorem assignedAre_runBuild (hentries : (snap.entries.map Entry.index).Nodup) :
    AssignedAre (runBuild snap (Work.start snap)) := by
  have hul : (Machine.runDir snap .dl (Work.start snap)).at .ul = (Work.start snap).at .ul := runDir_at_other (by decide) _
  refine AssignedAre.runDir hentries (dirLaws_setNeeds hentries ?_ ?_)
    (AssignedAre.runDir hentries (dirLaws_setNeeds hentries (indices_start .dl) (grants_start .dl)) .nil)
  · rw [hul]; exact indices_start .ul
  · rw [hul]; exact grants_start .ul

end AssignedAre

/-! ### Counting the assignments of grants -/

/-- The sum over the members that a test picks. -/
theorem sum_map_filter {α : Type} (p : α → Bool) (f : α → Nat) (l : List α) :
    ((l.filter p).map f).sum = (l.map fun a => if p a then f a else 0).sum := by
  induction l with
  | nil => rfl
  | cons a l ih => cases h : p a <;> simp [h, ih]

/-- The assignments of a grant agree on every test that reads its record or sector alone. -/
theorem countP_assigned_grant (g : WorkGrant) (p : Assignment → Bool) (b : Bool) (h : ∀ a ∈ g.assigned, p a = b) :
    g.assigned.countP p = if b then g.tiles.length else 0 := by
  have hlen : g.assigned.length = g.tiles.length := List.length_map _
  cases b
  · exact List.countP_eq_zero.2 fun a ha => by simp [h a ha]
  · exact hlen ▸ List.countP_eq_length.2 h

/-- The assignments of a direction that pass a test which the assignments of a grant pass all or none. -/
theorem countP_assigned (v : DirWork) (p : Assignment → Bool) (q : WorkGrant → Bool)
    (h : ∀ g ∈ v.grants, ∀ a ∈ g.assigned, p a = q g) :
    v.assigned.countP p = ((v.grants.filter q).map fun g => g.tiles.length).sum := by
  rw [DirWork.assigned, List.countP_flatMap, sum_map_filter]
  exact congrArg List.sum (List.map_congr_left fun g hg => countP_assigned_grant g p (q g) (h g hg))

theorem mem_assigned {g : WorkGrant} {a : Assignment} (h : a ∈ g.assigned) :
    a.tile ∈ g.tiles ∧ a.sector = g.entry.home ∧ a.index = g.entry.index := by
  obtain ⟨t, ht, rfl⟩ := List.mem_map.1 h
  exact ⟨ht, rfl, rfl⟩

/-- What a record was granted is what its grants hold. -/
theorem granted_eq (v : DirWork) (i : RecIdx) :
    v.granted i = ((v.grants.filter fun g => decide (g.entry.index = i)).map fun g => g.tiles.length).sum :=
  countP_assigned v _ _ fun g _ a ha => by rw [(mem_assigned ha).2.2]

/-- The tiles of a sector's assignments in a direction are those of its grants. -/
theorem map_tile_assigned (k : SectorId) (v : DirWork) :
    (v.assigned.filter fun a => decide (a.sector = k)).map Assignment.tile =
      (v.grants.filter fun g => decide (g.entry.home = k)).flatMap WorkGrant.tiles := by
  unfold DirWork.assigned
  induction v.grants with
  | nil => rfl
  | cons g gs ih =>
    rw [List.flatMap_cons, List.filter_append, List.map_append, ih]
    by_cases hk : g.entry.home = k
    · rw [List.filter_cons_of_pos (by simpa using hk), List.flatMap_cons,
        List.filter_eq_self.2 fun a ha => by simp [(mem_assigned ha).2.1, hk]]
      simp [WorkGrant.assigned, Function.comp_def]
    · rw [List.filter_cons_of_neg (by simpa using hk),
        List.filter_eq_nil_iff.2 fun a ha => by simp [(mem_assigned ha).2.1, hk]]
      rfl

/-! ### The published grants (R100, R117, R118) -/

theorem tileBytes_eq (snap : Snapshot) (e : Entry) (t : Nat) : tileBytes snap e t = bytesOn snap e t := by
  unfold bytesOn
  split
  next h => exact tileBytes_of_lt h snap e
  next h => exact tileBytes_of_le (by omega) snap e

/-- The grant that the plan holds is the working one with its bytes and flag. -/
theorem grantOf_eq (snap : Snapshot) (dir : Dir) (g : WorkGrant) : grantOf snap dir g = publishedGrant snap dir g := by
  have hbytes : grantBytes snap g = (g.tiles.map (bytesOn snap g.entry)).sum :=
    congrArg List.sum (List.map_congr_left fun t _ => tileBytes_eq snap g.entry t)
  have htrimmed : grantTrimmed snap g = decide ((∃ t ∈ g.tiles, 90 ≤ t) ∧ usableOf snap g.entry < 20) := by
    rw [grantTrimmed, Bool.decide_and]
    refine congrArg (· && _) (Bool.eq_iff_iff.2 ?_)
    simp [List.any_eq_true, inEdge]
  rw [grantOf, hbytes, htrimmed]
  rfl

theorem sectorGrants_eq (snap : Snapshot) (dir : Dir) (v : DirWork) (k : SectorId) : sectorGrants snap dir v k =
    (v.grants.filter fun g => decide (g.entry.home = k)).map (publishedGrant snap dir) := by
  rw [sectorGrants, funext (grantOf_eq snap dir)]

/-! ### The summaries (R101) -/

section Summary

variable {snap : Snapshot} {dir : Dir} {w : Work} (h : DirLaws snap dir w) (k : SectorId)

include h

/-- The grants of a record are grants of its sector. -/
theorem DirLaws.filter_filter (hentries : (snap.entries.map Entry.index).Nodup) {e : Entry} (he : e ∈ snap.entries) :
    ((w.at dir).grants.filter fun g => decide (g.entry.home = e.home)).filter (fun g => decide (g.entry.index = e.index)) =
      (w.at dir).grants.filter fun g => decide (g.entry.index = e.index) := by
  rw [List.filter_filter]
  refine List.filter_congr fun g hg => ?_
  by_cases hi : g.entry.index = e.index
  · simp [entry_unique hentries (h.grants g hg).1.entry he hi]
  · simp [hi]

/-- The tiles assigned in a sector in a direction are those of the sector's grants of the direction. -/
theorem DirLaws.countP_tiles (hsnap : SnapshotOk snap) (other : Dir) :
    (w.at dir).assigned.countP (fun a => decide (a.sector = k) && inDir snap.d other a.tile) =
      if other = dir then
        (((w.at dir).grants.filter fun g => decide (g.entry.home = k)).map fun g => g.tiles.length).sum
      else 0 := by
  have hin : ∀ g ∈ (w.at dir).grants, ∀ a ∈ g.assigned, inDir snap.d other a.tile = decide (other = dir) := by
    intro g hg a ha
    have hdir := dir_of_mem_dirTiles hsnap ((h.grants g hg).1.tiles a.tile (mem_assigned ha).1)
    cases other <;> cases dir <;> simp [inDir] at hdir ⊢ <;> omega
  split
  next hd =>
    refine countP_assigned _ _ _ fun g hg a ha => ?_
    rw [hin g hg a ha, (mem_assigned ha).2.1, decide_eq_true hd, Bool.and_true]
  next hd =>
    refine List.countP_eq_zero.2 fun a ha => ?_
    obtain ⟨g, hg, hag⟩ := List.mem_flatMap.1 ha
    rw [hin g hg a hag, decide_eq_false hd, Bool.and_false]
    exact Bool.false_ne_true

end Summary

/-- The summary of a sector in a direction counts the sector's grants (R101). -/
theorem summaryCounts_summaryOf {snap : Snapshot} (hsnap : SnapshotOk snap) {w : Work} (hlaws : ∀ d, DirLaws snap d w)
    (hassigned : AssignedAre w) (dir : Dir) (k : SectorId) :
    SummaryCounts dir (w.at dir)
      (((w.at dir).grants.filter fun g => decide (g.entry.home = k)).map (publishedGrant snap dir))
      (snap.entries.filter fun e => decide (e.home = k)) (summaryOf snap dir w k) := by
  have hentries := entries_nodup_of_snapshotOk hsnap
  refine ⟨?_, ?_, ?_, ?_⟩
  · rw [summaryOf, hassigned.countP_eq, List.countP_append, (hlaws .dl).countP_tiles k hsnap, (hlaws .ul).countP_tiles k hsnap,
      List.map_map]
    cases dir <;> simp [publishedGrant, Function.comp_def]
  · rw [List.length_map, ← List.countP_eq_length_filter]
    rfl
  · show ((sectorRecords snap (w.at dir) k).map WorkRecord.need).sum = _
    rw [sectorRecords, List.map_map]
    refine congrArg List.sum (List.map_congr_left fun e he => ?_)
    obtain ⟨hmem, hk⟩ := List.mem_filter.1 he
    obtain rfl := of_decide_eq_true hk
    have hneed := (hlaws dir).needs e hmem
    rw [granted_eq, ← (hlaws dir).filter_filter hentries hmem] at hneed
    rw [List.filter_map, List.map_map]
    show ((w.at dir).record e.index).need = needOf e dir - _
    rw [← hneed]
    exact (Nat.add_sub_cancel_left ..).symm
  · show (sectorRecords snap (w.at dir) k).countP WorkRecord.blocked = _
    rw [sectorRecords, List.countP_map]
    rfl

/-! ### The plan -/

theorem sectors_planOf_of_none {snap : Snapshot} {k : SectorId} (h : ∀ v ∈ snap.sectors, v.id ≠ k) (w : Work) :
    (planOf snap w).sectors.get k = none := by
  have hnone : snap.sector? k = none := List.find?_eq_none.2 fun v hv => by simpa using h v hv
  rw [planOf, PerSector.get_of, hnone]

theorem sectors_planOf_of_mem {snap : Snapshot} {v : SnapSector} (h : v ∈ snap.sectors) (w : Work) :
    (planOf snap w).sectors.get v.id = some
      { grants := sectorGrants snap .dl w.dl v.id ++ sectorGrants snap .ul w.ul v.id
        dl := summaryOf snap .dl w v.id, ul := summaryOf snap .ul w v.id } := by
  rcases Option.eq_none_or_eq_some (snap.sector? v.id) with hnone | ⟨u, hu⟩
  · exact absurd (List.find?_eq_none.1 hnone v h) (by simp)
  · rw [planOf, PerSector.get_of, hu]

section SectorGrants

variable {snap : Snapshot} {w : Work} {k : SectorId}

/-- The tiles of a sector's grants are those of its assignments. -/
theorem AssignedAre.tiles_perm (h : AssignedAre w) :
    (((sectorGrants snap .dl (w.at .dl) k ++ sectorGrants snap .ul (w.at .ul) k)).flatMap Grant.tiles).Perm
      ((w.occupancy.filter fun a => decide (a.sector = k)).map Assignment.tile) := by
  have htiles : ∀ dir, (sectorGrants snap dir (w.at dir) k).flatMap Grant.tiles =
      ((w.at dir).assigned.filter fun a => decide (a.sector = k)).map Assignment.tile := fun dir => by
    rw [map_tile_assigned, sectorGrants, List.flatMap_map]
    rfl
  rw [List.flatMap_append, htiles, htiles, ← List.map_append, ← List.filter_append]
  exact ((h.filter _).map _).symm

/-- The tiles of a sector's grants are assigned to their records in the sector, and no others. -/
theorem AssignedAre.exists_grant_iff (h : AssignedAre w) (i : RecIdx) (t : Nat) :
    (∃ a ∈ w.occupancy, a.sector = k ∧ a.index = i ∧ a.tile = t) ↔
      ∃ g ∈ sectorGrants snap .dl (w.at .dl) k ++ sectorGrants snap .ul (w.at .ul) k, g.index = i ∧ t ∈ g.tiles := by
  have hdir : ∀ dir, (∃ a ∈ (w.at dir).assigned, a.sector = k ∧ a.index = i ∧ a.tile = t) ↔
      ∃ g ∈ sectorGrants snap dir (w.at dir) k, g.index = i ∧ t ∈ g.tiles := fun dir => by
    constructor
    · rintro ⟨a, ha, hs, hi, rfl⟩
      obtain ⟨g, hg, hag⟩ := List.mem_flatMap.1 ha
      obtain ⟨ht, hhome, hindex⟩ := mem_assigned hag
      exact ⟨grantOf snap dir g,
        List.mem_map.2 ⟨g, List.mem_filter.2 ⟨hg, decide_eq_true (hhome.symm.trans hs)⟩, rfl⟩, hindex.symm.trans hi, ht⟩
    · rintro ⟨_, hg, hi, ht⟩
      obtain ⟨g, hmem, rfl⟩ := List.mem_map.1 hg
      obtain ⟨hg, hk⟩ := List.mem_filter.1 hmem
      exact ⟨_, List.mem_flatMap.2 ⟨g, hg, List.mem_map.2 ⟨t, ht, rfl⟩⟩, of_decide_eq_true hk, hi, rfl⟩
  simp only [List.Perm.mem_iff h, List.mem_append, or_and_right, exists_or, hdir]

end SectorGrants

/-- A sector's assignments are of different tiles when each of its tiles has one assignee. -/
theorem tiles_nodup {occ : List Assignment} (h : OneAssigneePerTile occ) (k : SectorId) :
    ((occ.filter fun a => decide (a.sector = k)).map Assignment.tile).Nodup := by
  refine List.Nodup.of_map (fun t => (k, t)) ?_
  have hpairs : (occ.filter fun a => decide (a.sector = k)).map (fun a => (k, a.tile)) =
      (occ.filter fun a => decide (a.sector = k)).map fun a => (a.sector, a.tile) :=
    List.map_congr_left fun a ha => by rw [of_decide_eq_true (List.mem_filter.1 ha).2]
  rw [List.map_map]
  exact hpairs ▸ h.sublist (List.filter_sublist.map _)

/-- Settles O23: at every step the assignments are those that the grants stand for, so the plan's lists and summaries, read
off the one or the other, agree. -/
theorem planHoldsWhatTheBuildPlaced : Obligations.PlanHoldsWhatTheBuildPlaced := by
  intro snap hsnap w plan
  have hentries := entries_nodup_of_snapshotOk hsnap
  have hlaws : ∀ dir, DirLaws snap dir w := dirLaws_runBuild hentries
  have hassigned : AssignedAre w := assignedAre_runBuild hentries
  have hone : OneAssigneePerTile w.occupancy := (placementLaws_runBuild snap).oneAssignee
  refine ⟨⟨rfl, rfl, rfl, rfl, rfl⟩, fun k => ⟨fun h => sectors_planOf_of_none h w, ?_⟩⟩
  rintro v hv rfl
  refine ⟨_, sectors_planOf_of_mem hv w, ⟨?_, summaryCounts_summaryOf hsnap hlaws hassigned .dl v.id,
    summaryCounts_summaryOf hsnap hlaws hassigned .ul v.id⟩, fun dir g hg => ((hlaws dir).grants g hg).1.entry,
    hassigned.exists_grant_iff, hassigned.tiles_perm.nodup_iff.2 ?_, fun g hg => ?_⟩
  · exact congrArg₂ (· ++ ·) (sectorGrants_eq snap .dl w.dl v.id) (sectorGrants_eq snap .ul w.ul v.id)
  · exact tiles_nodup hone v.id
  · have hdir : ∀ dir, g ∈ sectorGrants snap dir (w.at dir) v.id → ∀ t ∈ g.tiles, t < 96 ∧ (g.dir = .dl ↔ t < 6 * snap.d) := by
      intro dir hg t ht
      obtain ⟨c, hmem, rfl⟩ := List.mem_map.1 hg
      exact dir_of_mem_dirTiles hsnap (((hlaws dir).grants c (List.mem_filter.1 hmem).1).1.tiles t ht)
    exact (List.mem_append.1 hg).elim (hdir .dl) (hdir .ul)

end Sys2Proof.Machine
end

section
/-! The passes of a build follow the rules (R90 to R99, R110, R111): each function of a pass is tied to the relation that
says what the pass does, and these are put together direction by direction. -/

namespace Sys2Proof.Machine

open Sys2Proof.Safety

/-! ### The scan finds the lowest tile that fits (R110, R111) -/

/-- In a list without repetition of a key, a member is found by its key. -/
theorem find_of_nodup_map {α β : Type} [DecidableEq β] {f : α → β} {l : List α} (hnodup : (l.map f).Nodup) {y : α}
    (hy : y ∈ l) : l.find? (fun x => decide (f x = f y)) = some y := by
  rcases Option.eq_none_or_eq_some (l.find? fun x => decide (f x = f y)) with hnone | ⟨x, hx⟩
  · exact absurd (List.find?_eq_none.1 hnone y hy) (by simp)
  · have hkey : f x = f y := by simpa using List.find?_some hx
    rw [hx, List.inj_on_of_nodup_map hnodup (List.mem_of_find?_eq_some hx) hy hkey]

section Fitting

variable {snap : Snapshot} (hsnap : SnapshotOk snap)
include hsnap

/-- A sector of the snapshot is found by its id. -/
theorem find_sector_of_mem {v : SnapSector} (hv : v ∈ snap.sectors) :
    snap.sectors.find? (fun u => decide (u.id = v.id)) = some v := by
  obtain ⟨-, hnodup, -⟩ := hsnap
  exact find_of_nodup_map hnodup hv

/-- The mask of a sector bars a tile exactly when that of its place in the snapshot does. -/
theorem mask_iff (k : SectorId) (t : Nat) :
    (snap.mask k).getLsbD t = false ↔ ∀ v ∈ snap.sectors, v.id = k → v.mask.getLsbD t = false := by
  rcases Option.eq_none_or_eq_some (snap.sectors.find? fun u => decide (u.id = k)) with hnone | ⟨u, hu⟩
  · have hmask : snap.mask k = 0 := by rw [Snapshot.mask, hnone]
    refine iff_of_true (by rw [hmask]; exact BitVec.getLsbD_zero) fun v hv hvk => ?_
    exact absurd (List.find?_eq_none.1 hnone v hv) (by simp [hvk])
  · have hmask : snap.mask k = u.mask := by rw [Snapshot.mask, hu]
    have huk : u.id = k := by simpa using List.find?_some hu
    rw [hmask]
    refine ⟨fun h v hv hvk => ?_, fun h => h u (List.mem_of_find?_eq_some hu) huk⟩
    have := find_sector_of_mem hsnap hv
    rw [hvk, hu] at this
    cases this
    exact h

/-- The tiles that fit are those of the direction that qualify. -/
theorem fits_iff (dir : Dir) (occ : List Assignment) (e : Entry) (t : Nat) :
    Fits snap dir occ e t ↔ t ∈ dirTiles snap.d dir ∧ qualifies snap occ e t = true := by
  have hdir : t ∈ dirTiles snap.d dir ↔ (dir = .dl → t < 6 * snap.d) ∧ (dir = .ul → 6 * snap.d ≤ t ∧ t < 96) := by
    obtain ⟨⟨-, hd⟩, -⟩ := hsnap
    cases dir
    · simp [dirTiles]
    · simp only [dirTiles, List.mem_range'_1]
      simp
      omega
  have hfree : (∀ a ∈ occ, ¬(a.sector = e.home ∧ a.tile = t)) ↔ ∀ a ∈ occ, a.sector = e.home → a.tile ≠ t := by
    simp only [not_and, ne_eq]
  rw [hdir, qualifies_iff, mask_iff hsnap, hfree, Fits]
  tauto

theorem fits_of_scan {dir : Dir} {occ : List Assignment} {e : Entry} {t : Nat} (h : scan snap dir occ e = some t) :
    Fits snap dir occ e t ∧ ∀ u, u < t → ¬Fits snap dir occ e u := by
  obtain ⟨hdir, hq, hlow⟩ := scan_some h
  refine ⟨(fits_iff hsnap ..).2 ⟨hdir, hq⟩, fun u hu hfit => ?_⟩
  obtain ⟨hudir, huq⟩ := (fits_iff hsnap ..).1 hfit
  rw [hlow u hudir hu] at huq
  cases huq

theorem not_fits_of_scan {dir : Dir} {occ : List Assignment} {e : Entry} (h : scan snap dir occ e = none) (t : Nat) :
    ¬Fits snap dir occ e t := by
  intro hfit
  obtain ⟨hdir, hq⟩ := (fits_iff hsnap ..).1 hfit
  rw [scan_none h t hdir] at hq
  cases hq

end Fitting

theorem budgetSpent_iff (snap : Snapshot) (dir : Dir) (w : Work) :
    budgetSpent snap dir w = true ↔ BudgetSpent snap dir w := by
  cases dir <;> simp [budgetSpent, BudgetSpent]

/-! ### The position is bookkeeping -/

section Same

variable {w u v : Work}

theorem sameWork_refl (w : Work) : SameWork w w := rfl

theorem sameWork_reach (w : Work) (dir : Dir) (pass : Pass) (round : Nat) (e : Entry) :
    SameWork w (w.reach dir pass round e) := rfl

theorem sameWork_trans (h : SameWork w u) (h' : SameWork u v) : SameWork w v := by
  unfold SameWork at *
  rw [h', h]

theorem at_of_sameWork (h : SameWork w u) (dir : Dir) : u.at dir = w.at dir := by
  rw [h]
  cases dir <;> rfl

theorem occupancy_of_sameWork (h : SameWork w u) : u.occupancy = w.occupancy := by
  rw [h]

theorem dlCount_of_sameWork (h : SameWork w u) : u.dlCount = w.dlCount := by
  rw [h]

theorem budgetSpent_of_sameWork (h : SameWork w u) (snap : Snapshot) (dir : Dir) :
    BudgetSpent snap dir u ↔ BudgetSpent snap dir w := by
  rw [BudgetSpent, BudgetSpent, dlCount_of_sameWork h]

end Same

/-! ### Attempts (R92, R93, R98, R100) -/

theorem add_eq_grantWith (pass : Pass) (t : Nat) (g : WorkGrant) : g.add pass t = grantWith pass t g := by
  cases pass <;> rfl

theorem grantsGrown_addToGrant (pass : Pass) (e : Entry) (t : Nat) (gs : List WorkGrant) :
    GrantsGrown pass e t gs (addToGrant pass e t gs) := by
  constructor
  · rintro ⟨g, hg, hge⟩
    have hany : (gs.any fun g => decide (g.entry.index = e.index)) = true := List.any_eq_true.2 ⟨g, hg, decide_eq_true hge⟩
    rw [addToGrant, if_pos hany]
    simp only [add_eq_grantWith]
  · intro hnone
    rw [addToGrant_of_notMem pass t hnone, add_eq_grantWith]
    rfl

/-- The working state after a placement and, in Pass S, the payment for it (R92, R96). -/
def placedIn (dir : Dir) (pass : Pass) (e : Entry) (t : Nat) (w : Work) : Work :=
  match pass with
  | .s => spendCredit dir e (placeTile dir .s e t w)
  | pass => placeTile dir pass e t w

section Attempts

variable {snap : Snapshot} {dir : Dir} {e : Entry} {w u : Work}

/-- Two updates of one record, one after the other, are one. -/
theorem update_update (v : DirWork) (i : RecIdx) {f g : WorkRecord → WorkRecord} (hf : ∀ r, (f r).index = r.index) :
    ((v.update i f).update i g).records = v.records.map fun r => if r.index = i then g (f r) else r := by
  simp only [DirWork.update, List.map_map]
  refine List.map_congr_left fun r _ => ?_
  by_cases hr : r.index = i <;> simp [hr, hf]

theorem attemptPlaced_of_scan (hsnap : SnapshotOk snap) (hsame : SameWork w u) (pass : Pass) {t : Nat}
    (h : scan snap dir u.occupancy e = some t) : AttemptPlaced snap dir pass e w (placedIn dir pass e t u) := by
  have hocc := occupancy_of_sameWork hsame
  have hcount := dlCount_of_sameWork hsame
  have hat := at_of_sameWork hsame
  obtain ⟨hfits, hlow⟩ := fits_of_scan hsnap h
  rw [hocc] at hfits hlow
  refine ⟨t, hfits, hlow, ?_⟩
  have hplaced : ∀ p : Pass, (placeTile dir p e t u).dlCount = if dir = .dl then w.dlCount + 1 else w.dlCount := fun p => by
    rw [placeTile_dlCount, hcount]
    cases dir <;> rfl
  have hother : ∀ (p : Pass) (d : Dir), d ≠ dir → (placeTile dir p e t u).at d = w.at d := fun p d hd => by
    rw [placeTile_at_other hd, hat]
  cases pass with
  | s =>
    refine ⟨?_, ?_, fun d hd => ?_, ?_, ?_, ?_, ?_⟩ <;> simp only [placedIn, spendCredit]
    · rw [put_occupancy, placeTile_occupancy, hocc]
    · rw [put_dlCount, hplaced]
    · rw [work_at_put_other _ _ hd, hother _ d hd]
    · rw [work_at_put_same, placeTile_at_same, hat]
      exact update_update (w.at dir) e.index (f := fun r => { r with need := r.need - 1 })
        (g := fun r => { r with credit := r.credit - 1 }) fun _ => rfl
    · rw [work_at_put_same, placeTile_at_same, hat]
      exact grantsGrown_addToGrant ..
    · rw [work_at_put_same, placeTile_at_same, hat]
      rfl
    · rw [work_at_put_same, placeTile_at_same, hat]
      rfl
  | r =>
    refine ⟨by rw [← hocc]; exact placeTile_occupancy .., hplaced _, hother _, ?_⟩
    simp only [placedIn, placeTile_at_same, hat]
    exact ⟨rfl, grantsGrown_addToGrant .., rfl, rfl⟩
  | l =>
    refine ⟨by rw [← hocc]; exact placeTile_occupancy .., hplaced _, hother _, ?_⟩
    simp only [placedIn, placeTile_at_same, hat]
    exact ⟨rfl, grantsGrown_addToGrant .., rfl, rfl⟩

/-- Replacing the working fields of a direction reaches nothing else. -/
theorem onlyDir_put (hsame : SameWork w u) (v : DirWork) : OnlyDir dir w v (u.put dir v) :=
  ⟨work_at_put_same .., fun d hd => (work_at_put_other u v hd).trans (at_of_sameWork hsame d),
    (put_occupancy ..).trans (occupancy_of_sameWork hsame), (put_dlCount ..).trans (dlCount_of_sameWork hsame)⟩

theorem attemptBlocked_of_scan (hsnap : SnapshotOk snap) (hsame : SameWork w u)
    (h : scan snap dir u.occupancy e = none) : AttemptBlocked snap dir e w
      (u.put dir ((u.at dir).update e.index fun r => { r with blocked := true })) := by
  refine ⟨fun t => ?_, ?_⟩
  · rw [← occupancy_of_sameWork hsame]
    exact not_fits_of_scan hsnap h t
  · rw [at_of_sameWork hsame dir]
    exact onlyDir_put hsame _

/-! ### Turns (R94, R96, R97) -/

/-- A refused budget is the spent one. -/
theorem not_budgetSpent_of_false (hsame : SameWork w u) (h : budgetSpent snap dir u = false) : ¬BudgetSpent snap dir w := by
  rw [← budgetSpent_of_sameWork hsame, ← budgetSpent_iff, h]
  exact Bool.false_ne_true

theorem reserveTurn_reserve (hsnap : SnapshotOk snap) (n : Nat) (hsame : SameWork w u) :
    ReserveTurn snap dir e n w (reserve snap dir e n u) := by
  induction n generalizing w u with
  | zero => exact .done hsame
  | succ n ih =>
    unfold reserve
    rcases attempt_cases snap dir .r e u with ⟨hb, h⟩ | ⟨hb, t, hs, h⟩ | ⟨hb, hs, h⟩ <;> rw [h]
    · exact .spent ((budgetSpent_of_sameWork hsame ..).1 ((budgetSpent_iff ..).1 hb)) hsame
    · exact .placed (not_budgetSpent_of_false hsame hb) (attemptPlaced_of_scan hsnap hsame .r hs) (ih (sameWork_refl _))
    · exact .blocked (not_budgetSpent_of_false hsame hb) (attemptBlocked_of_scan hsnap hsame hs)

/-- A record's turn in a pass. -/
def turnOf (snap : Snapshot) (dir : Dir) : Pass → Nat → Work → Entry → Work
  | .r => fun _ => turnR snap dir
  | .s => turnS snap dir
  | .l => turnL snap dir

/-- An attempt of Pass S, its tile paid for, or of Pass L. -/
theorem turn_of_attempt (hsnap : SnapshotOk snap) (hb : ¬BudgetSpent snap dir w) (hsame : SameWork w u) {pass : Pass}
    (hp : pass ≠ .r) (hturn : TakesTurn pass ((w.at dir).record e.index)) {w' : Work}
    (hplaced : ∀ t, attempt snap dir pass e u = (placeTile dir pass e t u, .placed) → w' = placedIn dir pass e t u)
    (hblocked : ∀ x, attempt snap dir pass e u = (x, .blocked) → w' = x) : Turn snap dir pass e w w' := by
  rcases attempt_cases snap dir pass e u with ⟨hspent, -⟩ | ⟨-, t, hs, h⟩ | ⟨-, hs, h⟩
  · exact absurd ((budgetSpent_of_sameWork hsame ..).1 ((budgetSpent_iff ..).1 hspent)) hb
  · rw [hplaced t h]
    exact .placed hp hturn (attemptPlaced_of_scan hsnap hsame pass hs)
  · rw [hblocked _ h]
    exact .blocked hp hturn (attemptBlocked_of_scan hsnap hsame hs)

theorem turn_turnOf (hsnap : SnapshotOk snap) (hb : ¬BudgetSpent snap dir w) (pass : Pass) (round : Nat) :
    Turn snap dir pass e w (turnOf snap dir pass round w e) := by
  cases pass with
  | r => exact .reserve (reserveTurn_reserve hsnap _ (sameWork_reach ..))
  | s =>
    simp only [turnOf, turnS]
    split
    next h =>
      obtain ⟨hneed, hcredit, hblock⟩ := h
      refine turn_of_attempt hsnap hb (sameWork_reach w dir .s round e) (by decide) ⟨hneed, hblock, fun _ => hcredit⟩
        (fun t h => ?_) fun x h => ?_
      · rw [h]; rfl
      · rw [h]
    next h =>
      exact .passedOver (by decide) (fun ⟨hneed, hblock, hcredit⟩ => h ⟨hneed, hcredit rfl, hblock⟩) (sameWork_refl w)
  | l =>
    simp only [turnOf, turnL]
    split
    next h =>
      obtain ⟨hneed, hblock⟩ := h
      refine turn_of_attempt hsnap hb (sameWork_reach w dir .l round e) (by decide) ⟨hneed, hblock, fun h => by cases h⟩
        (fun t h => ?_) fun x h => ?_
      · rw [h]; rfl
      · rw [h]
    next h =>
      exact .passedOver (by decide) (fun ⟨hneed, hblock, _⟩ => h ⟨hneed, hblock⟩) (sameWork_refl w)

/-- The spent budget refuses an attempt without effect (R98). -/
theorem attempt_of_spent (h : BudgetSpent snap dir w) (pass : Pass) (e : Entry) :
    attempt snap dir pass e w = (w, .noBudget) := by
  rw [attempt, if_pos ((budgetSpent_iff ..).2 h)]

/-- A turn on a spent budget moves the position alone. -/
theorem sameWork_turnOf (h : BudgetSpent snap dir w) (pass : Pass) (round : Nat) (e : Entry) :
    SameWork w (turnOf snap dir pass round w e) := by
  have hreach : ∀ p r, BudgetSpent snap dir (w.reach dir p r e) := fun _ _ => h
  cases pass with
  | r =>
    simp only [turnOf, turnR]
    cases min (e.reservation dir) ((w.at dir).record e.index).need with
    | zero => exact sameWork_reach ..
    | succ n =>
      rw [reserve, attempt_of_spent (hreach _ _)]
      exact sameWork_reach ..
  | s =>
    simp only [turnOf, turnS, attempt_of_spent (hreach _ _)]
    split
    · exact sameWork_reach ..
    · exact sameWork_refl w
  | l =>
    simp only [turnOf, turnL, attempt_of_spent (hreach _ _)]
    split
    · exact sameWork_reach ..
    · exact sameWork_refl w

theorem buildSteps_turnOf (he : e ∈ snap.entries) (pass : Pass) (round : Nat) (w : Work) :
    BuildSteps snap dir w (turnOf snap dir pass round w e) := by
  cases pass with
  | r => exact buildSteps_turnR he w
  | s => exact buildSteps_turnS he round w
  | l => exact buildSteps_turnL he round w

end Attempts

/-! ### Walks and rounds (R91, R96, R97, R98) -/

section Walks

variable {snap : Snapshot} {dir : Dir} {w w' w'' : Work}

theorem sameWork_foldl (h : BudgetSpent snap dir w) (pass : Pass) (round : Nat) (es : List Entry) :
    SameWork w (es.foldl (turnOf snap dir pass round) w) := by
  induction es generalizing w with
  | nil => exact sameWork_refl w
  | cons e es ih =>
    have hturn := sameWork_turnOf h pass round e
    exact sameWork_trans hturn (ih ((budgetSpent_of_sameWork hturn ..).2 h))

theorem walked_foldl (hsnap : SnapshotOk snap) (pass : Pass) (round : Nat) (es : List Entry) (w : Work) :
    Walked snap dir pass es w (es.foldl (turnOf snap dir pass round) w) := by
  induction es generalizing w with
  | nil => exact .done (sameWork_refl w)
  | cons e es ih =>
    by_cases hb : BudgetSpent snap dir w
    · exact .spent hb (sameWork_foldl hb pass round (e :: es))
    · exact .turn hb (turn_turnOf hsnap hb pass round) (ih _)

/-- The end of a walk is known up to the position. -/
theorem walked_sameWork {pass : Pass} {es : List Entry} (h : Walked snap dir pass es w w') (hsame : SameWork w' w'') :
    Walked snap dir pass es w w'' := by
  induction h with
  | done hs => exact .done (sameWork_trans hs hsame)
  | spent hb hs => exact .spent hb (sameWork_trans hs hsame)
  | turn hb hturn _ ih => exact .turn hb hturn (ih hsame)

theorem sameWork_rounds (h : BudgetSpent snap dir w) (pass : Pass) (fuel round : Nat) :
    SameWork w (rounds snap dir (turnOf snap dir pass) fuel round w) := by
  cases fuel with
  | zero => exact sameWork_refl w
  | succ fuel =>
    have hwalk := sameWork_foldl h pass round (walkOf snap dir)
    rw [rounds, if_pos (by rw [occupancy_of_sameWork hwalk])]
    exact hwalk

/-- A tile placed lowers the total need. -/
theorem totalNeed_update_lt (v : DirWork) {i : RecIdx} (h : 0 < (v.record i).need) :
    (v.update i fun r => { r with need := r.need - 1 }).totalNeed < v.totalNeed := by
  obtain ⟨r, hr, hi, hrec⟩ := mem_records_of_need v h
  rw [hrec] at h
  rw [DirWork.totalNeed, DirWork.totalNeed, DirWork.update, List.map_map]
  refine List.sum_lt_sum _ _ (fun q _ => ?_) ⟨r, hr, ?_⟩
  · simp only [Function.comp]
    split
    · exact Nat.sub_le _ _
    · exact Nat.le_refl _
  · simp only [Function.comp, if_pos hi]
    omega

theorem totalNeed_of_fieldsKept {v v' : DirWork} (h : FieldsKept snap v v') : v'.totalNeed = v.totalNeed := by
  have hneeds : v'.records.map WorkRecord.need = v.records.map WorkRecord.need := by
    have := congrArg (List.map Prod.snd) h.needs
    rwa [List.map_map, List.map_map] at this
  rw [DirWork.totalNeed, DirWork.totalNeed, hneeds]

/-- Every assignment that steps add is paid for by the total need. -/
theorem totalNeed_add_length_le (h : BuildSteps snap dir w w') :
    (w'.at dir).totalNeed + w'.occupancy.length ≤ (w.at dir).totalNeed + w.occupancy.length := by
  refine h.keeps (P := fun u => (u.at dir).totalNeed + u.occupancy.length ≤ (w.at dir).totalNeed + w.occupancy.length)
    (fun u u' hstep hu => ?_) (Nat.le_refl _)
  cases hstep with
  | reach => rwa [reach_at, reach_occupancy]
  | fields hv => rwa [work_at_put_same, put_occupancy, totalNeed_of_fieldsKept hv]
  | @place e t pass _ hn =>
    have hlt := totalNeed_update_lt (u.at dir) hn
    rw [placeTile_at_same, placeTile_occupancy, List.length_append, List.length_singleton]
    exact Nat.le_trans (by rw [← Nat.add_assoc, Nat.add_right_comm]; exact Nat.add_le_add_right hlt _) hu

theorem occupancy_of_buildSteps (h : BuildSteps snap dir w w') : ∃ as, w'.occupancy = w.occupancy ++ as := by
  refine h.keeps (P := fun u => ∃ as, u.occupancy = w.occupancy ++ as) (fun u u' hstep hu => ?_)
    ⟨[], (List.append_nil _).symm⟩
  obtain ⟨as, hu⟩ := hu
  obtain ⟨bs, hu'⟩ := hstep.occupancy
  exact ⟨as ++ bs, by rw [hu', hu, List.append_assoc]⟩

/-- With the total need as its bound, the rounds of a pass end by themselves: after a round that places no tile, or once
the budget is spent. -/
theorem rounds_rounds (hsnap : SnapshotOk snap) (pass : Pass) (fuel round : Nat) (hfuel : (w.at dir).totalNeed < fuel) :
    Rounds snap dir pass (walkOf snap dir) w (rounds snap dir (turnOf snap dir pass) fuel round w) := by
  induction fuel generalizing round w with
  | zero => omega
  | succ fuel ih =>
    have hwalked := walked_foldl (dir := dir) hsnap pass round (walkOf snap dir) w
    have hsteps : BuildSteps snap dir w ((walkOf snap dir).foldl (turnOf snap dir pass round) w) :=
      buildSteps_walk (fun e he w => buildSteps_turnOf he pass round w) w
    rw [rounds]
    generalize (walkOf snap dir).foldl (turnOf snap dir pass round) w = u at hwalked hsteps ⊢
    obtain ⟨as, has⟩ := occupancy_of_buildSteps hsteps
    have hle := totalNeed_add_length_le hsteps
    have hlen : u.occupancy.length = w.occupancy.length + as.length := by rw [has, List.length_append]
    split
    next heq =>
      have : as = [] := List.length_eq_zero_iff.1 (by omega)
      exact .last hwalked (.inl (by rw [has, this, List.append_nil]))
    next hne =>
      by_cases hb : BudgetSpent snap dir u
      · have hsame := sameWork_rounds hb pass fuel (round + 1)
        exact .last (walked_sameWork hwalked hsame) (.inr ((budgetSpent_of_sameWork hsame ..).2 hb))
      · exact .more hwalked (fun h => hne (by rw [h])) hb (ih (round + 1) (by omega))

end Walks

/-! ### The walk (R91) -/

/-- A ring walked from a member on: from it to the end, and round to the member before it. -/
theorem walkFrom_append {a b : List SnapRecord} {r : SnapRecord} (h : r.index ∉ a.map SnapRecord.index) :
    walkFrom r.index (a ++ r :: b) = r :: b ++ a := by
  have ha : ∀ x ∈ a, decide (x.index ≠ r.index) = true := fun x hx => by
    simpa using fun e => h (List.mem_map.2 ⟨x, hx, e⟩)
  rw [walkFrom, List.dropWhile_append_of_pos ha, List.takeWhile_append_of_pos ha, List.dropWhile_cons_of_neg (by simp),
    List.takeWhile_cons_of_neg (by simp), List.append_nil]

/-- Each record stands once in the ring of a sector of the snapshot. -/
theorem ring_nodup {snap : Snapshot} (hsnap : SnapshotOk snap) {v : SnapSector} (hv : v ∈ snap.sectors) :
    (v.ring.map SnapRecord.index).Nodup := by
  obtain ⟨-, -, hnodup, -⟩ := hsnap
  exact (List.nodup_flatMap.1 hnodup).1 v hv

/-- In a ring without repetition, a member's index is not found before or after it. -/
theorem index_notMem {a b : List SnapRecord} {r : SnapRecord} (h : ((a ++ r :: b).map SnapRecord.index).Nodup) :
    r.index ∉ a.map SnapRecord.index ∧ r.index ∉ b.map SnapRecord.index := by
  rw [List.map_append, List.map_cons, List.nodup_middle, List.nodup_cons, List.mem_append, not_or] at h
  exact h.1

theorem isWalk_walkOf {snap : Snapshot} (hsnap : SnapshotOk snap) (dir : Dir) : IsWalk snap dir (walkOf snap dir) := by
  refine ⟨_, rfl, fun v hv => ⟨fun h => ?_, fun a r b hring h => ?_⟩⟩
  · simp only [h]
  · have hnodup := ring_nodup hsnap hv
    rw [hring] at hnodup
    simp only [h]
    rw [hring, walkFrom_append (index_notMem hnodup).1]

/-! ### Working heads (R99) -/

/-- The last recipients of Pass S are records that take part, in their sectors. -/
def LastTookPart (snap : Snapshot) (v : DirWork) : Prop :=
  ∀ k i, v.lastS.get k = some i → ∃ e ∈ snap.entries, e.home = k ∧ e.index = i

theorem LastTookPart.steps {snap : Snapshot} {dir : Dir} {w w' : Work} (hsteps : BuildSteps snap dir w w')
    (h : LastTookPart snap (w.at dir)) : LastTookPart snap (w'.at dir) := by
  refine hsteps.keeps (P := fun u => LastTookPart snap (u.at dir)) (fun u u' hstep hu k i hi => ?_) h
  cases hstep with
  | reach => exact hu k i (by rwa [reach_at] at hi)
  | fields hv =>
    rw [work_at_put_same] at hi
    exact (hv.lastS k i hi).elim (hu k i) id
  | place pass =>
    rw [placeTile_at_same] at hi
    exact hu k i hi

/-- A record that takes part stands in the ring of its sector. -/
theorem exists_ring_of_entry {snap : Snapshot} (hsnap : SnapshotOk snap) {e : Entry} (he : e ∈ snap.entries) :
    ∃ v ∈ snap.sectors, v.id = e.home ∧ ∃ a x b, v.ring = a ++ x :: b ∧ x.index = e.index := by
  obtain ⟨v, hv, hr⟩ := List.mem_flatMap.1 he
  obtain ⟨r, hr, hre⟩ := List.mem_filterMap.1 hr
  obtain ⟨-, -, -, hsectors⟩ := hsnap
  obtain ⟨hindex, -, hhome⟩ := (hsectors v hv).1 r hr e hre
  obtain ⟨a, b, hring⟩ := List.append_of_mem hr
  exact ⟨v, hv, hhome.symm, a, r, b, hring, hindex.symm⟩

/-- The successor in a ring is the member that follows, round the ring. -/
theorem ringSuccessor_append {i : RecIdx} {a b : List RecIdx} (ha : i ∉ a) :
    ringSuccessor i (a ++ i :: b) = (b ++ a ++ [i]).head? := by
  rw [ringSuccessor, if_pos (by simp), nextAfter_append ha]
  cases b <;> cases a <;> rfl

theorem workHead_of_none (snap : Snapshot) {v : DirWork} {k : SectorId} (h : v.lastS.get k = none) :
    workHead snap v k = none := by
  unfold workHead
  rw [h]
  cases snap.sector? k <;> rfl

/-- The working head is the record that follows the last recipient of Pass S in the snapshot ring. -/
theorem workHead_of_some {snap : Snapshot} (hsnap : SnapshotOk snap) {v : DirWork} {u : SnapSector} (hu : u ∈ snap.sectors)
    {a b : List SnapRecord} {x : SnapRecord} (hring : u.ring = a ++ x :: b) (h : v.lastS.get u.id = some x.index) :
    workHead snap v u.id = ((b ++ a ++ [x]).head?).map fun r => { index := r.index, generation := r.generation } := by
  have hnodup := ring_nodup hsnap hu
  have hsucc : ringSuccessor x.index (u.ring.map SnapRecord.index) =
      ((b ++ a ++ [x]).head?).map SnapRecord.index := by
    rw [hring] at hnodup
    rw [hring, List.map_append, List.map_cons, ringSuccessor_append (index_notMem hnodup).1, ← List.head?_map]
    simp
  have hhead : ∃ y, (b ++ a ++ [x]).head? = some y ∧ y ∈ u.ring := by
    rcases hy : (b ++ a ++ [x]).head? with _ | y
    · simp at hy
    · refine ⟨y, rfl, ?_⟩
      have hmem := List.mem_of_mem_head? hy
      rw [hring]
      simp only [List.mem_append, List.mem_cons] at hmem ⊢
      tauto
  obtain ⟨y, hy, hmem⟩ := hhead
  unfold workHead
  rw [show snap.sector? u.id = some u from find_sector_of_mem hsnap hu, h]
  simp only [hsucc, hy, Option.map_some, find_of_nodup_map hnodup hmem]

theorem headsFixed_fixHeads {snap : Snapshot} (hsnap : SnapshotOk snap) {dir : Dir} {w : Work}
    (hlast : LastTookPart snap (w.at dir)) : HeadsFixed snap dir w (fixHeads snap dir w) := by
  have hat : (fixHeads snap dir w).at dir =
      { w.at dir with heads := PerSector.of (workHead snap (w.at dir)) } := work_at_put_same ..
  refine ⟨by rw [hat]; exact onlyDir_put (sameWork_refl w) _, fun k => ⟨fun h => ?_, fun i h => ?_⟩⟩ <;>
    rw [hat]
  · exact (PerSector.get_of ..).trans (workHead_of_none snap h)
  · obtain ⟨e, he, rfl, rfl⟩ := hlast k i h
    obtain ⟨u, hu, hid, a, x, b, hring, hx⟩ := exists_ring_of_entry hsnap he
    rw [← hid, ← hx] at h
    exact ⟨u, hu, hid, a, x, b, hring, hx, hid ▸ (PerSector.get_of ..).trans (workHead_of_some hsnap hu hring h)⟩

/-! ### One direction, and both (R91) -/

section Directions

variable {snap : Snapshot} {dir : Dir} {w : Work}

/-- The records of all entries are put through a function. -/
theorem eachRecord_updateAll (hsnap : SnapshotOk snap) {f : Entry → WorkRecord → WorkRecord}
    (hf : ∀ e r, (f e r).index = r.index)
    (hindices : (w.at dir).records.map WorkRecord.index = snap.entries.map Entry.index) :
    EachRecord snap dir f w (w.put dir ((w.at dir).updateAll f snap.entries)) := by
  refine ⟨?_, fun e he => ?_, ?_⟩
  · rw [work_at_put_same, updateAll_indices hf]
  · rw [work_at_put_same]
    exact record_updateAll hf snap.entries _ (entries_nodup_of_snapshotOk hsnap) he (hindices ▸ List.mem_map.2 ⟨e, he, rfl⟩)
  · rw [work_at_put_same, ← updateAll_fields]
    exact onlyDir_put (sameWork_refl w) _

/-- A direction that starts with nothing granted and no last recipient runs by the rules. -/
theorem directionRun_runDir (hsnap : SnapshotOk snap)
    (hindices : (w.at dir).records.map WorkRecord.index = snap.entries.map Entry.index) (hgrants : (w.at dir).grants = [])
    (hlast : LastTookPart snap (w.at dir)) : DirectionRun snap dir w (runDir snap dir w) := by
  have hentries := entries_nodup_of_snapshotOk hsnap
  have hlaws := (dirLaws_setNeeds hentries hindices hgrants).steps hentries (buildSteps_passR (dir := dir) (setNeeds snap dir w))
  have hlast' : LastTookPart snap ((setNeeds snap dir w).at dir) := by
    rw [setNeeds_eq, work_at_put_same, updateAll_fields]
    exact hlast
  refine ⟨walkOf snap dir, setNeeds snap dir w, _, _, _, _, isWalk_walkOf hsnap dir,
    eachRecord_updateAll hsnap (fun _ _ => rfl) hindices, walked_foldl hsnap .r 0 _ _,
    eachRecord_updateAll hsnap (fun _ _ => rfl) hlaws.indices, rounds_rounds hsnap .s _ 1 (Nat.lt_succ_self _),
    rounds_rounds hsnap .l _ 1 (Nat.lt_succ_self _), headsFixed_fixHeads hsnap ?_⟩
  exact hlast'.steps ((buildSteps_passR _).trans <| (buildSteps_creditUpdate _).trans <|
    (buildSteps_passS _).trans (buildSteps_passL _))

/-- A build starts without a last recipient of Pass S. -/
theorem lastS_start (snap : Snapshot) (dir : Dir) (k : SectorId) : ((Work.start snap).at dir).lastS.get k = none := by
  cases dir <;> cases k <;> rfl

theorem lastTookPart_start (snap : Snapshot) (dir : Dir) : LastTookPart snap ((Work.start snap).at dir) := by
  intro k i h
  rw [lastS_start] at h
  cases h

end Directions

/-- Settles O22: each pass is tied to its relation along the walk, and the downlink's passes leave the uplink's working
fields at their start. -/
theorem passesFollowTheRules : Obligations.PassesFollowTheRules := by
  intro snap hsnap
  refine ⟨⟨rfl, rfl, fun dir => ⟨grants_start dir, lastS_start snap dir, by cases dir <;> rfl⟩⟩,
    runDir snap .dl (Work.start snap),
    directionRun_runDir hsnap (indices_start .dl) (grants_start .dl) (lastTookPart_start snap .dl), ?_⟩
  have hat : (runDir snap .dl (Work.start snap)).at .ul = (Work.start snap).at .ul := runDir_at_other (by decide) _
  refine directionRun_runDir hsnap ?_ ?_ ?_ <;> rw [hat]
  · exact indices_start .ul
  · exact grants_start .ul
  · exact lastTookPart_start snap .ul

end Sys2Proof.Machine
end
